-- ==== Sys2Proof/Word.lean ====
section
/-! DEFINITION. The word types of the part: a byte, a halfword (the unit of one host access) and a 32-bit word. -/

namespace Sys2Proof

/-- One byte of exchange memory. -/
abbrev Byte := BitVec 8

/-- One halfword: what one host access moves (introduction, section 6.2). -/
abbrev Half := BitVec 16

/-- A 32-bit quantity: the line clock, the travel, a latest-result value (introduction, section 6.1). -/
abbrev Word := BitVec 32

end Sys2Proof
end

