-- ==== Sys2Proof/Syntax.lean ====
section
/-! DEFINITION. The commands of the part: one constructor of `Instr` for each row of spec/opcode_table.json, with the
data that enters from outside as its operands. -/

namespace Sys2Proof

/-- The two byte enables of a host access (section 1.1): `lo` selects the even byte, `hi` the odd byte. -/
structure Enables where
  lo : Bool
  hi : Bool
  deriving DecidableEq, Repr

/-- A request cell, 0 to 7 (section 1.9). -/
abbrev CellNo := Fin 8

/-- A preheat zone; zone k of the manual is `k - 1` here (chapter 8). -/
abbrev ZoneNo := Fin 6

/-- A counting unit, CU0 to CU3 (R99). -/
abbrev UnitNo := Fin 4

/-- The three registers whose writes are discarded (R12). -/
inductive DiscardReg where
  | ident | refusalAddr | refusalData
  deriving DecidableEq, Repr

/-- The seven counting sources, in the manual's numbering (section 6.1). -/
inductive Source where
  | flow | tachChip | tachMain | tachFan | echo | pyro | aux
  deriving DecidableEq, Repr

/-- The two wave pumps (chapter 9). -/
inductive PumpId where
  | chip | main
  deriving DecidableEq, Repr

/-- The four pressure conditions of the extraction (R170). -/
inductive PressureCond where
  | airflowLow | airflowLost | filterLoaded | filterClogged
  deriving DecidableEq, Repr

/-- What a poll of the fume link meets on the bus (R114): SDA low, no acknowledgement, or the three bytes read. -/
inductive FumeBus where
  | stuck
  | nack
  | bytes (b0 b1 b2 : Byte)
  deriving DecidableEq, Repr

/-- A character frame of the scanner line (R43): the eight data bits, the parity bit (sent when parity is even or odd),
the stop bit, and the number of successful STARTs taken since its start bit (0 for a character that began after the
last one). -/
structure RxFrame where
  data : Byte
  parityBit : Bool
  stopBit : Bool
  startsSince : Nat
  deriving DecidableEq, Repr

/-- The groups of sub-events of one millimetre tick whose mutual order the manual leaves open (R70, R74). -/
inductive TickPhase where
  /-- the sample of the entry eye and its edge (R58, R64 to R66) -/
  | entryEye
  /-- the sample of the exit eye and its edge (R58, R70, R72) -/
  | exitEye
  /-- every stage event but EXIT_OPEN and EXIT_LATE (R67) -/
  | stages
  /-- EXIT_OPEN and EXIT_LATE (R69, R71) -/
  | exitStages
  /-- the judgement of the board gap at this tick's travel (R74): an entry-eye edge taken before it finds the grant as
  the travel of the tick before gave it -/
  | gap
  deriving DecidableEq, Repr

/-- The two orders in which a jam's claim at AMC and the discard of the map may be taken (R28, R73, R92). -/
inductive JamOrder where
  /-- AMC takes the BOARD_JAM pulse (and SAFE) first, then the map is discarded and reported empty -/
  | pulseFirst
  /-- the map is discarded and reported empty first, then AMC takes the pulse -/
  | discardFirst
  deriving DecidableEq, Repr

/-- The inputs sampled at a millisecond tick (R88, R127, R128), and whether a valve that closed since the last tick
was open for part of the interval that ends here (R119). -/
structure TickInputs where
  /-- SAFETY_OK is high: the chain samples CLOSED -/
  safetyOk : Bool
  /-- the pressure switch is closed: it samples OK -/
  pressureClosed : Bool
  /-- the tank switch reads high -/
  tankHigh : Bool
  /-- a valve that closed since the last tick was open during some part of the interval -/
  valvePart : Bool
  deriving DecidableEq, Repr

/-- The commands: one constructor per row of spec/opcode_table.json, in the table's order. -/
inductive Instr where
  | powerOn
  | powerOnInitEnd
  | hostRead (addr : Half) (en : Enables)
  | hostWrite (addr : Half) (en : Enables) (data : Half)
  | watchedWrite (addr : Half) (en : Enables) (data : Half)
  | docketStateRuling
  | recipeStateRuling
  | requestCellRuling
  | pendingSlotExpiry
  | controlReset (en : Enables) (data : Half)
  | hostResetSweepEnd
  | parityInvert (en : Enables) (data : Half)
  | attnWrite (en : Enables) (data : Half)
  | attnMaskWrite (en : Enables) (data : Half)
  | refusalReasonWrite (en : Enables) (data : Half)
  | parityAddrWrite (en : Enables) (data : Half)
  | registerWriteDiscarded (reg : DiscardReg) (en : Enables) (data : Half)
  | start (cell : CellNo)
  | produce (cell : CellNo)
  | finish (cell : CellNo)
  | safeEnter (cell : CellNo)
  | safeLeave (cell : CellNo)
  | reconfigure (cell : CellNo)
  | profileSelect (cell : CellNo)
  | changeoverComplete
  | changeoverTimeout
  | ackAlarm (cell : CellNo)
  | measure (cell : CellNo)
  | measureOpenTimeExpiry
  | fluxPurge (cell : CellNo)
  | purgeSprayStart
  | purgeSprayExpiry
  | levelCalibrate (cell : CellNo)
  | calibrateQuietExpiry
  | feedSolder (cell : CellNo)
  | feedRequestTimerExpiry
  | cancel (cell : CellNo)
  | safetyChainDebounce
  | encoderPulse
  | mmTick (entryBlocked exitBlocked : Bool) (order : List TickPhase) (jam : JamOrder)
  | entryBlocked (jam : JamOrder)
  | exitBlocked (jam : JamOrder)
  | scannerCharacter (frame : RxFrame) (prevTakenFirst takenNow : Bool)
  | valvePeriodStart
  | valveOpenTimeEnd
  | pressureSwitchDebounce
  | tankSwitchDebounce
  | pyroClaimPlacement
  | conveyorSpeedMeasurement
  | driveRampStep
  | conveyorStall
  | dnAcceptChange (level : Bool)
  | downstreamTimerExpiry
  | upOfferChange (level : Bool)
  | rateGateOpen (unit : UnitNo)
  | rateGateClose (unit : UnitNo)
  | sourceEdge (src : Source)
  | spanRisingEdge (src : Source)
  | spanFallingEdge (src : Source) (micros : Nat)
  | spanNoEdge (src : Source)
  | spanOverrange (src : Source)
  | thermoRoundStart
  | thermoFrame (b0 b1 b2 b3 : Byte)
  | fumePollStart
  | fumePollEnd (bus : FumeBus)
  | zoneHeaterPeriodStart
  | zoneHeaterOnTimeEnd (zone : ZoneNo)
  | zoneSettleExpiry (zone : ZoneNo)
  | potHeaterPeriodStart
  | potHeaterOnTimeEnd
  | potSettleExpiry
  | pumpRampStep
  | pumpSpeedStale (pump : PumpId)
  | echoClaimPlacement
  | feedTimeout
  | extractSuppressionExpiry
  | extractConfirmationExpiry (cond : PressureCond)
  | fanStallExpiry
  | fanClearExpiry
  | graceExpiry
  | runOnExpiry
  | lineClockTick (inputs : TickInputs)
  deriving DecidableEq, Repr

end Sys2Proof
end

