-- ==== Sys2Proof/Decode.lean ====
section
/-! DEFINITION. The decoder of the interface.  The part is a block, not a processor: spec/opcode_table.json gives no row
any bits (every row's "fields" is empty), so no word spells a command. -/

namespace Sys2Proof

/-- The command a word spells by the table's bits: the table gives none, so every word is refused by `none`. -/
def decodeTableWord (_nbits _w : Nat) : Option Instr := none

end Sys2Proof
end

