-- ==== Sys2Proof/Config.lean ====
section
/-! DEFINITION. The values the manual leaves open, as constants without a body: no proof can see what they are. -/

namespace Sys2Proof

/-- A free halfword, one for each value of the model's counter `State.free`.
It stands for the result of a speed formula (R154, R171) whose exact value exceeds the unsigned 16-bit format of
section 6.1, and for a raise detail the manual takes from an absent temperature (R152): the manual states no value
there.  Assumption log, entry 13. -/
opaque Config.freeHalf : Nat → Half

end Sys2Proof
end

