-- ==== Sys2Proof/Machine/State.lean ====
section
/-! DEFINITION. The state of the part, one structure for each block of section 2 of the introduction, and the state
right after reset.

What is stored is what is not a function of something else.  The outputs and published values that are such functions
(the status page and the alarm table as bytes, the machine condition, the conveyor-stop signal, horn, beacon, ATTN line,
UP_GRANT, DN_OFFER, SCN_TRIG, the drive command, the fan output) are computed views, in Machine/Flags.lean and
Machine/View.lean; assumption log, entry 2.

Times kept by the part's timers are counts of millisecond ticks since power-on (`Amc.ticks`, not wrapping: R97 "A timer
therefore measures its interval correctly across a wrap"); the 32-bit line clock is that count modulo 2^32. -/

namespace Sys2Proof.Machine

/-! ### Common -/

/-- A docket number, 0 to 47. -/
abbrev DocketNo := Fin 48

/-- A recipe index, 0 to 15. -/
abbrev RecipeNo := Fin 16

/-- A timer: stopped, or running since the tick given. -/
abbrev Timer := Option Nat

/-! ### HPX: host port and exchange memory -/

/-- The exchange memory above the status page and the alarm table: the bytes that differ from 0x00, by strictly rising
address, and the addresses whose stored parity is bad, strictly rising.  An address not listed reads 0x00 with good
parity, which is what the power-on clear leaves (R18). -/
structure Xm where
  cells : List Host.Cell
  bad : List Nat
  deriving DecidableEq, Repr

/-- What HPX is doing: power-on initialisation (R18), normal work, or a host-reset sweep (R19). -/
inductive HpxPhase where
  | initialising | running | sweeping
  deriving DecidableEq, Repr

/-- The termination of a host access (section 1.1). -/
inductive Termination where
  | ready | retry | fault
  deriving DecidableEq, Repr

/-- The answer on the port to the last host access: its termination and, for a read that returns data, the halfword. -/
structure Answer where
  term : Termination
  data : Option Half
  deriving DecidableEq, Repr

/-- REFUSAL_REASON (R12; codes in section 11.2). -/
inductive RefusalReason where
  | none | unmapped | protectedBytes | notConfig | profileInUse | locked | transition | pinned
  deriving DecidableEq, Repr

/-- The refusal record (R7). -/
structure RefusalRecord where
  addr : Half
  data : Half
  reason : RefusalReason
  deriving DecidableEq, Repr

/-- The progress of a latched watched write (section 1.5): waiting for its owner, or ruled at the tick given. -/
inductive SlotProgress where
  | latched
  | ruled (accepted : Bool) (tick : Nat)
  deriving DecidableEq, Repr

/-- The pending slot's contents (R8). -/
structure PendingWrite where
  addr : Half
  en : Enables
  data : Half
  progress : SlotProgress
  deriving DecidableEq, Repr

/-- The Host Port and Exchange Memory block. -/
structure Hpx where
  phase : HpxPhase
  answer : Option Answer
  slot : Option PendingWrite
  refusal : RefusalRecord
  parityAddr : Half
  parityInvert : Bool
  attn : BitVec 6
  attnMask : BitVec 6
  /-- the cells handed to their owners by the dispatcher and not yet ruled on (R16), oldest first -/
  handed : List CellNo
  deriving DecidableEq, Repr

/-! ### DKC: docket controller -/

/-- A received character with its error marks (R43). -/
structure RxChar where
  data : Byte
  parityError : Bool
  framingError : Bool
  overrun : Bool
  deriving DecidableEq, Repr

/-- The scanner line's parity setting (R43). -/
inductive ParitySetting where
  | none | even | odd
  deriving DecidableEq, Repr

/-- The receiver's settings that a character is judged by (R43); absent before the first successful START. -/
structure RxSettings where
  present : Bool
  parity : ParitySetting
  deriving DecidableEq, Repr

/-- The open read window (R45): the board it belongs to, by its map entry's T_lead, and its count of bad messages. -/
structure ReadWindow where
  board : Word
  badMessages : Nat
  deriving DecidableEq, Repr

/-- The Docket Controller. -/
structure Dkc where
  /-- the arrival list, oldest announcement first (R41) -/
  arrival : List DocketNo
  /-- the unannounced count (R52) -/
  unannounced : Nat
  window : Option ReadWindow
  /-- the line buffer (R44); the character count is its length -/
  buffer : List Byte
  bad : Bool
  /-- the character the receiver holds until DKC takes it (R43) -/
  rxHeld : Option RxChar
  /-- the receiver's settings that each START since the last character on the line has replaced, newest first: a
  character that began before such a START is judged by them (R43) -/
  rxPast : List RxSettings
  deriving DecidableEq, Repr

/-! ### CVT: conveyor tracker -/

/-- The five drive states, used by the conveyor drive (section 4.2) and the pumps (section 9.2). -/
inductive DriveState where
  | stopped | ramping | atSpeed | offSpeed | stalled
  deriving DecidableEq, Repr

/-- The progress of a map entry (R63). -/
inductive Progress where
  | entered | exiting | atExit
  deriving DecidableEq, Repr

/-- A conveyor map entry (R63).  Its length is T_trail − T_lead (R66), so it is not stored beside them. -/
structure MapEntry where
  docket : Option DocketNo
  tLead : Word
  tTrail : Option Word
  entryTime : Word
  held : Bool
  progress : Progress
  deriving DecidableEq, Repr

/-- The Conveyor Tracker. -/
structure Cvt where
  travel : Word
  residue : Nat
  /-- millimetre ticks the prescaler has made and MM_TICK has not yet taken (R57; the model's own) -/
  mmTicksDue : Nat
  /-- mm ticks in the 500 ms interval now running, and in the one before it (R59) -/
  thisInterval : Nat
  prevInterval : Nat
  measuredSpeed : Nat
  drive : DriveState
  reference : Nat
  target : Nat
  /-- the stall timer (R62) -/
  stall : Timer
  /-- the conveyor map, oldest first (R63) -/
  map : List MapEntry
  /-- the sampled states of the eyes, true for BLOCKED (R58) -/
  entryEye : Bool
  exitEye : Bool
  /-- the entry-eye block is tracked (R58) -/
  entryTracked : Bool
  /-- the travel of the claimed exit-eye edge while its block is tracked (R70) -/
  exitEdge : Option Word
  upOffer : Bool
  dnAccept : Bool
  /-- the downstream timer (R75) -/
  downstream : Timer
  /-- the ticks at which the next speed measurement (R59) and ramp step (R60) are due -/
  nextSpeed : Nat
  nextRamp : Nat
  deriving DecidableEq, Repr

/-! ### Settings -/

/-- The match policy (R49). -/
inductive MatchPolicy where
  | order | strict
  deriving DecidableEq, Repr

/-- A machine description as a successful START puts it in force (R31; fields in section 11.6). -/
structure Description where
  pScan : Nat
  wScan : Nat
  pFlux : Nat
  pZone1 : Nat
  zoneLen : Vector Nat 6
  pPyro : Nat
  pChip : Nat
  wChip : Nat
  pMain : Nat
  wMain : Nat
  pExit : Nat
  jam : Nat
  prescaler : Nat
  maxSpeed : Nat
  stallTime : Nat
  scannerPresent : Bool
  scannerParity : ParitySetting
  baud : Nat
  policy : MatchPolicy
  pprChip : Nat
  pprMain : Nat
  pprFan : Nat
  fanDuty : Nat
  fanMin : Nat
  ductAddr : Nat
  filterAddr : Nat
  ductLow : Nat
  ductLost : Nat
  filterWarn : Nat
  filterLimit : Nat
  hysteresis : Nat
  suppression : Nat
  grace : Nat
  runOn : Nat
  margin : Nat
  usPerMm : Nat
  levelRef : Nat
  lowLow : Int
  feedOn : Int
  feedOff : Int
  highHigh : Int
  maxFeed : Nat
  initialProfile : Nat
  deriving DecidableEq, Repr

/-- One zone's settings in a line profile (section 2.3), in full units. -/
structure ZoneSettings where
  setpoint : Nat
  band : Nat
  hold : Nat
  maxDuty : Nat
  deriving DecidableEq, Repr

/-- A line profile's settings as AMC hands them to the blocks (R25), in full units (R174). -/
structure Profile where
  zones : Vector ZoneSettings 6
  zoneSettle : Nat
  potSetpoint : Nat
  potBand : Nat
  potHold : Nat
  potMax : Nat
  meltCap : Nat
  melt : Nat
  potSettle : Nat
  chipProduction : Nat
  chipIdle : Nat
  mainProduction : Nat
  mainIdle : Nat
  speed : Nat
  gap : Nat
  valvePeriod : Nat
  kFactor : Nat
  changeoverLimit : Nat
  deriving DecidableEq, Repr

/-! ### AMC: alarm and mode controller -/

/-- The operating modes (section 5.4). -/
inductive Mode where
  | config | standby | production | draining | safe
  deriving DecidableEq, Repr

/-- The machine condition (R85). -/
inductive Condition where
  | normal | hold | stopFlux | safe
  deriving DecidableEq, Repr

/-- The alarm classes (section 5.1). -/
inductive AlarmClass where
  | note | hold | stopFlux | safe
  deriving DecidableEq, Repr

/-- The alarm states (section 5.2). -/
inductive AlarmState where
  | quiet | active | held | latched
  deriving DecidableEq, Repr

/-- The 32 alarms, in id order (section 5.1). -/
inductive Alarm where
  | safetyChainOpen | conveyorStall | boardJam | boardUnannounced | boardLengthMismatch | scannerNoRead
  | recordParity | downstreamNotReady | extractAirflowLow | extractAirflowLost | extractFanStall
  | extractSensorLink | extractFailed | filterLoaded | filterClogged | fluxTankLow | fluxPressureLow
  | fluxNoFlow | fluxDoseOut | zoneDeviation | zoneSensor | zoneOvertemp | boardTopOut | potNotReady
  | potSensor | potOvertemp | solderLevelLow | solderLevelHigh | wireFeedTimeout | levelEchoLost
  | wavePumpSpeed | wavePumpStall
  deriving DecidableEq, Repr

/-- The variable fields of an alarm entry (R80); id, class and flags are fixed by the alarm. -/
structure AlarmEntry where
  state : AlarmState
  occurrences : Half
  detail : Half
  docket : Option DocketNo
  time : Word
  deriving DecidableEq, Repr

/-- A PROFILE_SELECT in flight (section 2.4): its cell, its target, and the tick of its SWITCH (none: phase DRAIN; some:
phase SETTLE, with the changeover timer running since then). -/
structure Changeover where
  cell : CellNo
  target : Fin 4
  switchedAt : Option Nat
  deriving DecidableEq, Repr

/-- The Alarm and Mode Controller. -/
structure Amc where
  /-- millisecond ticks since power-on; the line clock is this count modulo 2^32 (R97) -/
  ticks : Nat
  mode : Mode
  /-- the active profile index, 0 to 255 (R26) -/
  activeProfile : Byte
  /-- the description in force (R31) -/
  inForce : Option Description
  /-- the profile settings last handed to the blocks (R25) -/
  profile : Option Profile
  alarms : Vector AlarmEntry 32
  /-- the debounced safety chain level, true for OPEN, and its count of disagreeing samples (R88) -/
  chainOpen : Bool
  chainCount : Nat
  /-- a FINISH in flight (R92) -/
  finish : Option CellNo
  changeover : Option Changeover
  deriving DecidableEq, Repr

/-! ### CTA: counter array -/

/-- The counting modes (section 6.3). -/
inductive CountMode where
  | rate (gate : Nat)
  | opened
  | span
  deriving DecidableEq, Repr

/-- The claimants (section 6.2). -/
inductive Claimant where
  | fxc | phc | ptc | exm | diag
  deriving DecidableEq, Repr

/-- A claim (section 6.2).  `merged` says the claim came to DIAG from a block that withdrew it (R105). -/
structure Claim where
  source : Source
  mode : CountMode
  claimant : Claimant
  follower : Bool
  merged : Bool
  deriving DecidableEq, Repr

/-- A counting unit that carries a claim: the claim is ARMED until `counting`, then COUNTING. -/
structure CountUnit where
  claim : Claim
  counting : Bool
  /-- the tick of the grant (the armed time) -/
  armed : Nat
  /-- the tick at which the gate opened (RATE) or the rising edge came (SPAN) -/
  openedAt : Nat
  count : Nat
  deriving DecidableEq, Repr

/-- A result's status (R107). -/
inductive ResultStatus where
  | none | ok | overrange | noEdge | abandoned
  deriving DecidableEq, Repr

/-- An entry of the latest-result table (R107). -/
structure LatestResult where
  value : Option Word
  status : ResultStatus
  time : Option Word
  seq : Byte
  deriving DecidableEq, Repr

/-- A MEASURE in flight (R109): its cell and, for OPEN, its open time. -/
structure Measure where
  cell : CellNo
  openTime : Nat
  deriving DecidableEq, Repr

/-- The Counter Array. -/
structure Cta where
  units : Vector (Option CountUnit) 4
  queue : List Claim
  results : Vector LatestResult 7
  measure : Option Measure
  /-- the number of pulses issued on ECHO_TRIG (R104); the line is low between them (R110) -/
  echoTrigs : Nat
  deriving DecidableEq, Repr

/-! ### TLK and FLK: sensor links -/

/-- A thermocouple channel (R112, R113). -/
structure ThermoChannel where
  lastGood : Option Half
  suspect : Bool
  reference : Option (BitVec 4)
  badRun : Nat
  goodRun : Nat
  faulted : Bool
  /-- the detail of the fault notice given (R113) -/
  faultDetail : Nat
  deriving DecidableEq, Repr

/-- The Thermo Link: channels Z1 to Z6, POT_A, POT_B, and the channel whose frame comes next in the round running. -/
structure Tlk where
  channels : Vector ThermoChannel 8
  nextFrame : Option (Fin 8)
  nextRound : Nat
  deriving DecidableEq, Repr

/-- The two pressure sensors. -/
inductive FumeSensor where
  | duct | filter
  deriving DecidableEq, Repr

/-- A pressure sensor channel (R115). -/
structure FumeChannel where
  failRun : Nat
  goodRun : Nat
  fault : Bool
  deriving DecidableEq, Repr

/-- A poll in progress: the sensor and the address it is read at (R114). -/
structure FumePoll where
  sensor : FumeSensor
  addr : Nat
  deriving DecidableEq, Repr

/-- The Fume Link. -/
structure Flk where
  duct : FumeChannel
  filter : FumeChannel
  poll : Option FumePoll
  nextPoll : Nat
  deriving DecidableEq, Repr

/-! ### FXC: flux controller -/

/-- A load of the valves: a valve set (bit v−1 for valve v) and a duty in ‰ (section 7.1). -/
structure Load where
  valves : Byte
  duty : Nat
  deriving DecidableEq, Repr

/-- A flux band (section 2.1). -/
structure Band where
  first : Nat
  last : Nat
  load : Load
  deriving DecidableEq, Repr

/-- The valve period now running (R117): its start, its length and its open time. -/
structure ValvePeriod where
  start : Nat
  len : Nat
  openTime : Nat
  deriving DecidableEq, Repr

/-- A FLOW result handed back: the count, or OVERRANGE. -/
inductive FlowResult where
  | ok (count : Nat)
  | overrange
  deriving DecidableEq, Repr

/-- The current flux board's record (R120). -/
structure FluxBoard where
  board : Word
  docket : DocketNo
  bands : List Band
  /-- the band last found under the bar -/
  found : Option Nat
  valveTime : Nat
  interrupted : Bool
  /-- the FLOW result, when the claim has ended by wrap before its close (R103) -/
  flow : Option FlowResult
  deriving DecidableEq, Repr

/-- The purge's phase (section 7.4): WAIT, or SPRAY with the tick at which the purge's load became active, if it has. -/
inductive PurgePhase where
  | wait
  | spray (loadedAt : Option Nat)
  deriving DecidableEq, Repr

/-- A FLUX_PURGE in flight (R129). -/
structure Purge where
  cell : CellNo
  load : Load
  duration : Nat
  phase : PurgePhase
  valveTime : Nat
  flow : Option FlowResult
  deriving DecidableEq, Repr

/-- The Flux Controller. -/
structure Fxc where
  period : Option ValvePeriod
  active : Option Load
  buffered : Option Load
  /-- the valve outputs, bit v−1 set while valve v is open (R116) -/
  valves : Byte
  /-- a valve has closed since the last millisecond tick, other than at the end of its open time (R119) -/
  closedPart : Bool
  board : Option FluxBoard
  purge : Option Purge
  /-- the debounced pressure switch, true for OK, and its count (R127) -/
  pressureOk : Bool
  pressureCount : Nat
  /-- the debounced tank switch, true for HIGH, and its count (R128) -/
  tankHigh : Bool
  tankCount : Nat
  deriving DecidableEq, Repr

/-! ### PHC: preheat controller -/

/-- The zone states (section 8.3). -/
inductive ZoneState where
  | off | settling | ready | deviation | fault
  deriving DecidableEq, Repr

/-- A member of an occupancy set (R140): the board, its docket or the none-token, and its load boost. -/
structure Occupant where
  board : Word
  docket : Option DocketNo
  boost : Nat
  deriving DecidableEq, Repr

/-- A zone record (R132); the settings are those of `Amc.profile`. -/
structure Zone where
  state : ZoneState
  sensorFaulted : Bool
  faultCode : Nat
  overtemp : Bool
  settle : Timer
  activeDuty : Nat
  bufferedDuty : Option Nat
  heaterOn : Bool
  occupants : List Occupant
  deriving DecidableEq, Repr

/-- The pyrometer passage (R142). -/
structure PyroPassage where
  board : Word
  docket : DocketNo
  maximum : Option Nat
  /-- the line clock at PYRO_IN -/
  since : Word
  /-- the tick at which the claim is next placed again -/
  nextClaim : Nat
  deriving DecidableEq, Repr

/-- The Preheat Controller. -/
structure Phc where
  zones : Vector Zone 6
  /-- the start of the heater period now running, and the tick at which the next is due (R133) -/
  periodStart : Nat
  nextPeriod : Nat
  pyro : Option PyroPassage
  deriving DecidableEq, Repr

/-! ### PTC: pot controller -/

/-- The pot states (section 9.1). -/
inductive PotState where
  | off | melting | heating | ready | deviation | fault
  deriving DecidableEq, Repr

/-- The pot record (R147); the settings are those of `Amc.profile`. -/
structure Pot where
  state : PotState
  faultA : Bool
  faultB : Bool
  disagreement : Bool
  overtemp : Bool
  settle : Timer
  activeDuty : Nat
  bufferedDuty : Option Nat
  heaterOn : Bool
  deriving DecidableEq, Repr

/-- A pump record (section 9.2). -/
structure Pump where
  command : Nat
  reference : Nat
  measured : Option Half
  state : DriveState
  inBand : Nat
  zero : Nat
  arrival : Option Nat
  lastResult : Option Nat
  deriving DecidableEq, Repr

/-- A member of a passage list (section 9.3). -/
structure Passage where
  board : Word
  docket : DocketNo
  minimum : Option Half
  maximum : Option Half
  /-- the line clock at MAIN_IN (used in the MAIN list only) -/
  inTime : Word
  deriving DecidableEq, Repr

/-- The level states (R160). -/
inductive LevelState where
  | unknown | normal | low | lowLow | high
  deriving DecidableEq, Repr

/-- The feeder states (section 9.5). -/
inductive FeederState where
  | idle | feeding | blocked
  deriving DecidableEq, Repr

/-- The phases of LEVEL_CALIBRATE (R163). -/
inductive CalibratePhase where
  | stopping
  | quiet (since : Nat)
  | sampling (sum samples failures : Nat)
  deriving DecidableEq, Repr

/-- A LEVEL_CALIBRATE in flight. -/
structure Calibrate where
  cell : CellNo
  phase : CalibratePhase
  deriving DecidableEq, Repr

/-- A FEED_SOLDER in flight (R165). -/
structure FeedRequest where
  cell : CellNo
  since : Nat
  duration : Nat
  deriving DecidableEq, Repr

/-- The Pot Controller. -/
structure Ptc where
  pot : Pot
  chip : Pump
  main : Pump
  chipList : List Passage
  mainList : List Passage
  /-- the tick at which MAIN last left RAMPING (R159) -/
  mainLeftRamping : Option Nat
  /-- the level average: the distances of the last valid echoes, oldest first, at most 8 (R159) -/
  distances : List Nat
  echoFailures : Nat
  echoLost : Bool
  levelState : LevelState
  workingRef : Option Nat
  feeder : FeederState
  feedTimer : Nat
  calibrate : Option Calibrate
  feed : Option FeedRequest
  potPeriodStart : Nat
  nextPotPeriod : Nat
  nextRamp : Nat
  nextEcho : Nat
  deriving DecidableEq, Repr

/-! ### EXM: extraction monitor -/

/-- The extraction states (R169). -/
inductive ExtractState where
  | off | starting | running | degraded | lost
  deriving DecidableEq, Repr

/-- A pressure condition with its one confirmation timer (R170). -/
structure Confirmed where
  holds : Bool
  timer : Timer
  deriving DecidableEq, Repr

/-- The grace timer (R172): stopped, running since a tick, or expired and standing at 0. -/
inductive GraceTimer where
  | stopped
  | running (since : Nat)
  | expired
  deriving DecidableEq, Repr

/-- The Extraction Monitor. -/
structure Exm where
  fanOn : Bool
  runOn : Timer
  state : ExtractState
  suppression : Timer
  airflowLow : Confirmed
  airflowLost : Confirmed
  filterLoaded : Confirmed
  filterClogged : Confirmed
  fanStall : Bool
  stallTimer : Timer
  clearTimer : Timer
  /-- the link faults recorded from the Fume Link's notices, and the condition SENSOR_LINK (R171) -/
  linkDuct : Bool
  linkFilter : Bool
  sensorLink : Bool
  grace : GraceTimer
  /-- the pressures of the last good polls and the fan speed of the last OK result (R173) -/
  ductDp : Option Half
  filterDp : Option Half
  fanRpm : Option Half
  deriving DecidableEq, Repr

end Sys2Proof.Machine

namespace Sys2Proof.Machine

/-! ### The whole part -/

/-- The state of the part and the queue of the commands waiting for it, first in, first out. -/
structure State where
  hpx : Hpx
  dkc : Dkc
  cvt : Cvt
  amc : Amc
  cta : Cta
  tlk : Tlk
  flk : Flk
  fxc : Fxc
  phc : Phc
  ptc : Ptc
  exm : Exm
  xm : Xm
  /-- the model's own counter of free values taken (assumption log, entry 13) -/
  free : Nat
  pending : List Instr
  deriving DecidableEq, Repr

/-- No command stops the part: the manual gives every command of the table an effect, so there is no fault. -/
inductive Fault where
  deriving DecidableEq, Repr

/-- The reasons a command has no meaning here. -/
inductive Refusal where
  /-- Raised by an arm of `exec` that has no meaning yet, with its row's mnemonic.  Safe: the model stops.  No arm
  raises it now. -/
  | notModelled (mnemonic : String)
  deriving DecidableEq, Repr

/-! ### Reset values -/

/-- The alarm entry after power-on (R80). -/
def AlarmEntry.quietEntry : AlarmEntry :=
  { state := .quiet, occurrences := 0, detail := 0, docket := none, time := 0 }

/-- A latest-result entry after power-on (R107). -/
def LatestResult.noResult : LatestResult := { value := none, status := .none, time := none, seq := 0 }

/-- A thermocouple channel after power-on (R113). -/
def ThermoChannel.fresh : ThermoChannel :=
  { lastGood := none, suspect := true, reference := none, badRun := 0, goodRun := 0, faulted := false, faultDetail := 0 }

/-- A fume channel after power-on (R115). -/
def FumeChannel.fresh : FumeChannel := { failRun := 0, goodRun := 0, fault := false }

/-- A zone after power-on (R132). -/
def Zone.fresh : Zone :=
  { state := .off, sensorFaulted := false, faultCode := 0, overtemp := false, settle := none, activeDuty := 0,
    bufferedDuty := none, heaterOn := false, occupants := [] }

/-- A pump after power-on (R166). -/
def Pump.fresh : Pump :=
  { command := 0, reference := 0, measured := none, state := .stopped, inBand := 0, zero := 0, arrival := none,
    lastResult := none }

/-- A pressure condition that is absent, its timer stopped. -/
def Confirmed.absent : Confirmed := { holds := false, timer := none }

/-- An empty refusal record (R7). -/
def RefusalRecord.empty : RefusalRecord := { addr := 0, data := 0, reason := .none }

/-- Exchange memory after the power-on clear (R18): every byte 0x00 with good parity. -/
def Xm.cleared : Xm := { cells := [], bad := [] }

/-- HPX during power-on initialisation (R18). -/
def Hpx.initial : Hpx :=
  { phase := .initialising, answer := none, slot := none, refusal := .empty, parityAddr := 0xFFFF,
    parityInvert := false, attn := 0, attnMask := 0, handed := [] }

/-- DKC at power-on (R56). -/
def Dkc.initial : Dkc :=
  { arrival := [], unannounced := 0, window := none, buffer := [], bad := false, rxHeld := none,
    rxPast := [] }

/-- CVT at power-on (R78), with the levels of its two inputs from the neighbours. -/
def Cvt.initial (upOffer dnAccept : Bool) : Cvt :=
  { travel := 0, residue := 0, mmTicksDue := 0, thisInterval := 0, prevInterval := 0, measuredSpeed := 0,
    drive := .stopped, reference := 0, target := 0, stall := none, map := [], entryEye := false, exitEye := false,
    entryTracked := false, exitEdge := none, upOffer := upOffer, dnAccept := dnAccept, downstream := none,
    nextSpeed := 500, nextRamp := 100 }

/-- AMC at power-on (R26, R31, R80, R88, R89, R97). -/
def Amc.initial : Amc :=
  { ticks := 0, mode := .config, activeProfile := 0, inForce := none, profile := none,
    alarms := Vector.replicate 32 AlarmEntry.quietEntry, chainOpen := false, chainCount := 0, finish := none,
    changeover := none }

/-- CTA at power-on (R110). -/
def Cta.initial : Cta :=
  { units := Vector.replicate 4 none, queue := [], results := Vector.replicate 7 LatestResult.noResult,
    measure := none, echoTrigs := 0 }

/-- TLK at power-on (R113). -/
def Tlk.initial : Tlk :=
  { channels := Vector.replicate 8 ThermoChannel.fresh, nextFrame := none, nextRound := 100 }

/-- FLK at power-on (R115). -/
def Flk.initial : Flk := { duct := .fresh, filter := .fresh, poll := none, nextPoll := 200 }

/-- FXC at power-on (R131). -/
def Fxc.initial : Fxc :=
  { period := none, active := none, buffered := none, valves := 0, closedPart := false, board := none, purge := none,
    pressureOk := true, pressureCount := 0, tankHigh := true, tankCount := 0 }

/-- PHC at power-on (R145). -/
def Phc.initial : Phc :=
  { zones := Vector.replicate 6 Zone.fresh, periodStart := 0, nextPeriod := 2000, pyro := none }

/-- The pot after power-on (R147). -/
def Pot.fresh : Pot :=
  { state := .off, faultA := false, faultB := false, disagreement := false, overtemp := false, settle := none,
    activeDuty := 0, bufferedDuty := none, heaterOn := false }

/-- PTC at power-on (R166). -/
def Ptc.initial : Ptc :=
  { pot := .fresh, chip := .fresh, main := .fresh, chipList := [], mainList := [], mainLeftRamping := none, distances := [],
    echoFailures := 0, echoLost := false, levelState := .unknown, workingRef := none, feeder := .idle, feedTimer := 0,
    calibrate := none, feed := none, potPeriodStart := 0, nextPotPeriod := 4000, nextRamp := 100, nextEcho := 250 }

/-- EXM at power-on (R168, R173). -/
def Exm.initial : Exm :=
  { fanOn := false, runOn := none, state := .off, suppression := none, airflowLow := .absent, airflowLost := .absent,
    filterLoaded := .absent, filterClogged := .absent, fanStall := false, stallTimer := none, clearTimer := none,
    linkDuct := false, linkFilter := false, sensorLink := false, grace := .stopped, ductDp := none, filterDp := none,
    fanRpm := none }

/-- The part from the time supply comes up (R18), with the levels of the two neighbour inputs, the model's counter of
free values and the queue of waiting commands. -/
def State.poweredOn (upOffer dnAccept : Bool) (free : Nat) (pending : List Instr) : State :=
  { hpx := .initial, dkc := .initial, cvt := .initial upOffer dnAccept, amc := .initial, cta := .initial,
    tlk := .initial, flk := .initial, fxc := .initial, phc := .initial, ptc := .initial, exm := .initial,
    xm := .cleared, free := free, pending := pending }

/-- The part right after reset: supply has come up, every block has its power-on value, and power-on initialisation is
in progress (R18); POWER_ON_INIT_END ends it.  The neighbours' lines are low (assumption log, entry 3). -/
def State.reset : State := .poweredOn false false 0 []

end Sys2Proof.Machine
end

