-- ==== Sys2Proof/Machine/Ops.lean ====
section
/-! DEFINITION. The named operations over exchange memory, the attention and refusal registers, and the shared records:
docket, recipe and request cell.  Byte order and parity are decided here once (sections 6.2 and 1.3). -/

namespace Sys2Proof.Machine

/-! ### Exchange memory as data -/

/-- The byte listed for an address, 0x00 for an address not listed (the power-on clear, R18). -/
def cellsGet : List Host.Cell → Nat → Byte
  | [], _ => 0
  | (a, v) :: rest, x => if x = a then v else cellsGet rest x

/-- The list without the entry of an address. -/
def cellsErase : List Host.Cell → Nat → List Host.Cell
  | [], _ => []
  | (a, v) :: rest, x => if x = a then cellsErase rest x else (a, v) :: cellsErase rest x

/-- The list with one entry put at its place in the rising order. -/
def cellsInsert : List Host.Cell → Nat → Byte → List Host.Cell
  | [], x, w => [(x, w)]
  | (a, v) :: rest, x, w => if x < a then (x, w) :: (a, v) :: rest else (a, v) :: cellsInsert rest x w

/-- The list after a byte is written: the canonical form lists no 0x00. -/
def cellsSet (l : List Host.Cell) (x : Nat) (w : Byte) : List Host.Cell :=
  if w = 0 then cellsErase l x else cellsInsert (cellsErase l x) x w

/-- The list of addresses without one of them. -/
def addrsErase : List Nat → Nat → List Nat
  | [], _ => []
  | a :: rest, x => if x = a then addrsErase rest x else a :: addrsErase rest x

/-- The list of addresses with one put at its place in the rising order. -/
def addrsInsert : List Nat → Nat → List Nat
  | [], x => [x]
  | a :: rest, x => if x < a then x :: a :: rest else a :: addrsInsert rest x

/-- The addresses of the records and the host area that exchange memory stores as bytes.  The status page and the alarm
table, 0x0000 to 0x02FF, are written by the part alone and are computed from its state (Machine/View.lean). -/
def Xm.stores (a : Nat) : Bool := 0x300 ≤ a && a < 0x4000

/-- The stored byte at an address. -/
def Xm.byte (m : Xm) (a : Nat) : Byte := cellsGet m.cells a

/-- The byte at an address was stored with parity that does not agree with it (R3). -/
def Xm.isBad (m : Xm) (a : Nat) : Bool := m.bad.contains a

/-- Store a byte with good or bad parity (R3). -/
def Xm.setByte (m : Xm) (a : Nat) (v : Byte) (badParity : Bool) : Xm :=
  if Xm.stores a then
    { cells := cellsSet m.cells a v
      bad := if badParity then addrsInsert (addrsErase m.bad a) a else addrsErase m.bad a }
  else m

/-- Strictly rising addresses, all stored ones, and no entry that reads as an unlisted address does. -/
def cellsWf : Nat → List Host.Cell → Bool
  | _, [] => true
  | lo, (a, v) :: rest => lo ≤ a && Xm.stores a && v != 0 && cellsWf (a + 1) rest

/-- Strictly rising addresses, all stored ones. -/
def addrsWf : Nat → List Nat → Bool
  | _, [] => true
  | lo, a :: rest => lo ≤ a && Xm.stores a && addrsWf (a + 1) rest

/-- The canonical form of exchange memory: equal contents are equal data. -/
def Memory.wf (m : Xm) : Bool := cellsWf 0 m.cells && addrsWf 0 m.bad

/-! ### Reading and writing by the part -/

/-- The halfword of two bytes, low byte first (section 6.2). -/
def joinHalf (lo hi : Byte) : Half := hi ++ lo

/-- The low byte of a halfword. -/
def loByte (h : Half) : Byte := h.extractLsb' 0 8

/-- The high byte of a halfword. -/
def hiByte (h : Half) : Byte := h.extractLsb' 8 8

/-- The low halfword of a 32-bit quantity. -/
def loHalf (w : Word) : Half := w.extractLsb' 0 16

/-- The high halfword of a 32-bit quantity. -/
def hiHalf (w : Word) : Half := w.extractLsb' 16 16

/-- The byte a block reads at an address of a record. -/
def State.byteAt (s : State) (a : Nat) : Byte := s.xm.byte a

/-- The 16-bit field at an address, low byte first. -/
def State.halfAt (s : State) (a : Nat) : Half := joinHalf (s.byteAt a) (s.byteAt (a + 1))

/-- A write by the part stores good parity (R3). -/
def putByte (a : Nat) (v : Byte) (s : State) : State := { s with xm := s.xm.setByte a v false }

/-- Write a 16-bit field, low byte first. -/
def putHalf (a : Nat) (v : Half) (s : State) : State := putByte (a + 1) (hiByte v) (putByte a (loByte v) s)

/-- Write a 32-bit field, low halfword first (R14). -/
def putWord (a : Nat) (v : Word) (s : State) : State := putHalf (a + 2) (hiHalf v) (putHalf a (loHalf v) s)

/-- Write one byte to each of `n` addresses. -/
def fillBytes (a : Nat) (v : Byte) : Nat → State → State
  | 0, s => s
  | n + 1, s => fillBytes (a + 1) v n (putByte a v s)

/-! ### Quantities -/

/-- A measurement carried by a signed field that may be absent: −1 is carried as −2 (R174). -/
def encSigned (v : Int) : Half := if v = -1 then BitVec.ofInt 16 (-2) else BitVec.ofInt 16 v

/-- As `encSigned`, for a value already held as a halfword. -/
def encSignedHalf (h : Half) : Half := if h = 0xFFFF then 0xFFFE else h

/-- A 16-bit field that may be absent (section 6.3). -/
def optHalf (h : Option Half) : Half := h.getD 0xFFFF

/-- A 32-bit field that may be absent. -/
def optWord (w : Option Word) : Word := w.getD 0xFFFFFFFF

/-- A docket number, or none (0xFF). -/
def docketByte (d : Option DocketNo) : Byte :=
  match d with
  | some n => BitVec.ofNat 8 n.val
  | none => 0xFF

/-- The line clock: ticks since power-on modulo 2^32 (R97). -/
def State.lineClock (s : State) : Word := BitVec.ofNat 32 s.amc.ticks

/-- Milliseconds since a timer's start. -/
def State.since (s : State) (t : Nat) : Nat := s.amc.ticks - t

/-- A timer started at a tick has counted a number of milliseconds. -/
def State.hasRun (s : State) (t ms : Nat) : Bool := decide (t + ms ≤ s.amc.ticks)

/-- A running timer has counted a number of milliseconds. -/
def State.timerReached (s : State) (t : Timer) (ms : Nat) : Bool :=
  match t with
  | some t0 => s.hasRun t0 ms
  | none => false

/-- A value of the unsigned 16-bit format of section 6.1; where the exact value exceeds the format the manual states
none, and the value is free (assumption log, entry 13). -/
def State.half16 (s : State) (v : Nat) : Half := if v < 65536 then BitVec.ofNat 16 v else Config.freeHalf s.free

/-- The model's counter of free values moves on where `half16` has used one. -/
def takeHalf (v : Nat) (s : State) : State := if v < 65536 then s else { s with free := s.free + 1 }

/-! ### Parity and attention -/

/-- The attention classes, bit 0 first (section 11.2). -/
inductive AttnClass where
  | docket | request | alarm | mode | refusal | parity
  deriving DecidableEq, Repr

/-- The bit of an attention class. -/
def AttnClass.bit : AttnClass → BitVec 6
  | .docket => 0x01
  | .request => 0x02
  | .alarm => 0x04
  | .mode => 0x08
  | .refusal => 0x10
  | .parity => 0x20

/-- A set event of an attention class (R13). -/
def setAttn (c : AttnClass) (s : State) : State := { s with hpx.attn := s.hpx.attn ||| c.bit }

/-- Offer a bad byte for capture: taken if PARITY_ADDR is empty, and then ATTN.PARITY is set (R4). -/
def offerParity (a : Nat) (s : State) : State :=
  if s.hpx.parityAddr = 0xFFFF then setAttn .parity { s with hpx.parityAddr := BitVec.ofNat 16 a } else s

/-- The first of some addresses whose byte has bad parity (R4). -/
def firstBad (s : State) (addrs : List Nat) : Option Nat := addrs.find? s.xm.isBad

/-- Addresses `a` to `a + n − 1`. -/
def span (a n : Nat) : List Nat := List.range' a n

/-- A read by the part of bytes whose bad parity has no further effect (R4). -/
def readChecked (addrs : List Nat) (s : State) : State :=
  match firstBad s addrs with
  | some a => offerParity a s
  | none => s

/-- Offer a refusal to the refusal record: it fills an empty record and sets ATTN.REFUSAL (R7). -/
def offerRefusal (addr data : Half) (reason : RefusalReason) (s : State) : State :=
  if s.hpx.refusal.reason = .none then
    setAttn .refusal { s with hpx.refusal := { addr := addr, data := data, reason := reason } }
  else s

/-- The rulings of an owner on the latched write: the slot becomes RULED with the outcome (R8). -/
def slotRuled (accepted : Bool) (s : State) : State :=
  match s.hpx.slot with
  | some w => { s with hpx.slot := some { w with progress := .ruled accepted s.amc.ticks } }
  | none => s

/-- A ruling that accepts. -/
def ruleAccepted (s : State) : State := slotRuled true s

/-- A ruling that refuses, offered to the refusal record with the write's address and data (R8). -/
def ruleRefused (reason : RefusalReason) (s : State) : State :=
  match s.hpx.slot with
  | some w => slotRuled false (offerRefusal w.addr w.data reason s)
  | none => s

/-! ### Request cells (section 11.5) -/

/-- A cell's address. -/
def cellBase (c : CellNo) : Nat := 0x300 + 32 * c.val

/-- The cell states and the host-written POST. -/
def cellIdle : Byte := 0
def cellPost : Byte := 1
def cellTaken : Byte := 2
def cellDone : Byte := 3

/-- The request codes (section 1.9). -/
inductive Request where
  | start | produce | finish | safeEnter | safeLeave | reconfigure | profileSelect | ackAlarm | measure | fluxPurge
  | levelCalibrate | feedSolder | cancel
  deriving DecidableEq, Repr

/-- A request's code. -/
def Request.code : Request → Byte
  | .start => 0x01
  | .produce => 0x02
  | .finish => 0x03
  | .safeEnter => 0x04
  | .safeLeave => 0x05
  | .reconfigure => 0x06
  | .profileSelect => 0x10
  | .ackAlarm => 0x20
  | .measure => 0x30
  | .fluxPurge => 0x40
  | .levelCalibrate => 0x50
  | .feedSolder => 0x51
  | .cancel => 0x7F

/-- The request of a code, if it is in the table of section 1.9. -/
def Request.ofCode (b : Byte) : Option Request :=
  [Request.start, .produce, .finish, .safeEnter, .safeLeave, .reconfigure, .profileSelect, .ackAlarm, .measure,
    .fluxPurge, .levelCalibrate, .feedSolder, .cancel].find? (fun r => r.code == b)

/-- The long requests (section 1.9). -/
def Request.isLong : Request → Bool
  | .finish | .profileSelect | .measure | .fluxPurge | .levelCalibrate | .feedSolder => true
  | .start | .produce | .safeEnter | .safeLeave | .reconfigure | .ackAlarm | .cancel => false

/-- The request results (section 11.5). -/
inductive RequestResult where
  | ok | busy | mode | notReady | invalid | cancelled | aborted | timeout | unknownCode | reset | nothing
  deriving DecidableEq, Repr

/-- A result's code. -/
def RequestResult.code : RequestResult → Byte
  | .ok => 0
  | .busy => 1
  | .mode => 2
  | .notReady => 3
  | .invalid => 4
  | .cancelled => 5
  | .aborted => 6
  | .timeout => 7
  | .unknownCode => 8
  | .reset => 9
  | .nothing => 10

/-- A cell's state byte. -/
def State.cellState (s : State) (c : CellNo) : Byte := s.byteAt (cellBase c)

/-- A cell's code byte. -/
def State.cellCode (s : State) (c : CellNo) : Byte := s.byteAt (cellBase c + 2)

/-- A cell's argument i, 0 to 5. -/
def State.cellArg (s : State) (c : CellNo) (i : Nat) : Half := s.halfAt (cellBase c + 4 + 2 * i)

/-- The owner's read of the first `n` arguments checks their parity; bad parity is captured and has no further effect
(R4; assumption log, entry 12; which arguments an owner reads: entry 41). -/
def readArgs (c : CellNo) (n : Nat) (s : State) : State := readChecked (span (cellBase c + 4) (2 * n)) s

/-- Write reply halfword j, 0 to 7. -/
def putReply (c : CellNo) (j : Nat) (v : Half) (s : State) : State := putHalf (cellBase c + 16 + 2 * j) v s

/-- Write a 32-bit reply, low halfword in reply j. -/
def putReplyWord (c : CellNo) (j : Nat) (v : Word) (s : State) : State := putWord (cellBase c + 16 + 2 * j) v s

/-- End a request: the result, then the state DONE, then ATTN.REQUEST (R14, R16). -/
def endCell (c : CellNo) (r : RequestResult) (s : State) : State :=
  setAttn .request (putByte (cellBase c) cellDone (putByte (cellBase c + 1) r.code s))

/-- The dispatcher has handed this cell's request to its owner, which has not ruled on it yet. -/
def State.isHanded (s : State) (c : CellNo) (r : Request) : Bool :=
  s.hpx.handed.contains c && s.cellState c == cellTaken && s.cellCode c == r.code

/-- The owner takes up the request. -/
def takeHanded (c : CellNo) (s : State) : State := { s with hpx.handed := s.hpx.handed.filter (fun d => d != c) }

/-- The owner's ruling on a request handed to it: taken if the cell's request is of this code and waits for its owner;
otherwise there is nothing to rule on and nothing changes (assumption log, entry 4). -/
def ruleRequest (c : CellNo) (r : Request) (ruling : State → State) (s : State) : State :=
  if s.isHanded c r then ruling (takeHanded c s) else s

/-! ### Recipes and dockets (sections 11.8, 11.9) -/

/-- A recipe's address. -/
def recipeBase (r : RecipeNo) : Nat := 0x600 + 128 * r.val

/-- A docket's address. -/
def docketBase (d : DocketNo) : Nat := 0xE00 + 128 * d.val

def recipeEmpty : Byte := 0
def recipeReady : Byte := 1
def recipeInvalid : Byte := 2

def docketFree : Byte := 0
def docketAnnounced : Byte := 1
def docketOnLine : Byte := 2
def docketDone : Byte := 3
def docketRefused : Byte := 4

/-- A docket's state byte. -/
def State.docketState (s : State) (d : DocketNo) : Byte := s.byteAt (docketBase d)

/-- A docket is ON_LINE. -/
def State.onLine (s : State) (d : DocketNo) : Bool := s.docketState d == docketOnLine

/-- The recipe a docket names, as it was validated at acceptance (R42). -/
def State.recipeOf (s : State) (d : DocketNo) : RecipeNo := Fin.ofNat 16 (s.byteAt (docketBase d + 2)).toNat

/-- A recipe's pin count. -/
def State.pins (s : State) (r : RecipeNo) : Byte := s.byteAt (recipeBase r + 2)

/-- Raise a recipe's pin count by 1 (R42). -/
def pinUp (r : RecipeNo) (s : State) : State := putByte (recipeBase r + 2) (s.pins r + 1) s

/-- Lower a recipe's pin count by 1 (R42). -/
def pinDown (r : RecipeNo) (s : State) : State := putByte (recipeBase r + 2) (BitVec.ofNat 8 ((s.pins r).toNat - 1)) s

/-- A docket's reasons, bits 0 to 14 (chapter 3). -/
inductive Reason where
  | fluxInterrupted | fluxDose | fluxNoFlow | zoneDeviation | topTemp | potTemp | wavePump | contactTime | length
  | profile | entryHeld | safeDuring | recordParity | reset | trackingLost
  deriving DecidableEq, Repr

/-- A reason's bit. -/
def Reason.bit : Reason → Half
  | .fluxInterrupted => 0x0001
  | .fluxDose => 0x0002
  | .fluxNoFlow => 0x0004
  | .zoneDeviation => 0x0008
  | .topTemp => 0x0010
  | .potTemp => 0x0020
  | .wavePump => 0x0040
  | .contactTime => 0x0080
  | .length => 0x0100
  | .profile => 0x0200
  | .entryHeld => 0x0400
  | .safeDuring => 0x0800
  | .recordParity => 0x1000
  | .reset => 0x2000
  | .trackingLost => 0x4000

/-- A docket's reason set. -/
def State.reasons (s : State) (d : DocketNo) : Half := s.halfAt (docketBase d + 36)

/-- Add a reason to a docket's set, whatever its state (used inside the events that close the docket). -/
def putReason (d : DocketNo) (r : Reason) (s : State) : State :=
  putHalf (docketBase d + 36) (s.reasons d ||| r.bit) s

/-- A write into a docket's controller part is made only while the docket is ON_LINE (R35). -/
def whileOnLine (d : DocketNo) (f : State → State) (s : State) : State := if s.onLine d then f s else s

/-- Add a reason while the docket is ON_LINE (R35). -/
def addReason (d : DocketNo) (r : Reason) (s : State) : State := whileOnLine d (putReason d r) s

/-- Add bits to a docket's notes (bit 0 ID_UNVERIFIED, bit 1 FLUX_SKIPPED). -/
def putNote (d : DocketNo) (bit : Byte) (s : State) : State :=
  putByte (docketBase d + 38) (s.byteAt (docketBase d + 38) ||| bit) s

/-- Write a 16-bit result field of a docket while it is ON_LINE. -/
def putField (d : DocketNo) (off : Nat) (v : Half) (s : State) : State :=
  whileOnLine d (putHalf (docketBase d + off) v) s

/-- Write a 32-bit result field of a docket while it is ON_LINE. -/
def putFieldWord (d : DocketNo) (off : Nat) (v : Word) (s : State) : State :=
  whileOnLine d (putWord (docketBase d + off) v) s

/-- Write a docket's stage while it is ON_LINE (R68). -/
def putStage (d : DocketNo) (stage : Byte) (s : State) : State :=
  whileOnLine d (putByte (docketBase d + 34) stage) s

/-- Apply an operation for each element of a list, first to last. -/
def forEach {α : Type} (l : List α) (f : α → State → State) (s : State) : State := l.foldl (fun t a => f a t) s

/-- All cells, zones, units, dockets and recipes, in number order. -/
def allCells : List CellNo := List.finRange 8
def allZones : List ZoneNo := List.finRange 6
def allUnits : List UnitNo := List.finRange 4
def allDockets : List DocketNo := List.finRange 48
def allRecipes : List RecipeNo := List.finRange 16

/-- Another cell with the same long code is TAKEN (R16). -/
def State.otherTaken (s : State) (c : CellNo) (code : Byte) : Bool :=
  allCells.any (fun d => d != c && s.cellState d == cellTaken && s.cellCode d == code)

end Sys2Proof.Machine
end

