-- ==== Sys2Proof/Machine/Flags.lean ====
section
/-! DEFINITION. The signals, permissions and published indications that are functions of the state (assumption log,
entry 2): the machine condition, the conveyor-stop signal, the annunciators, the attention line, UP_GRANT, the run demand,
the flux permissions, and the derived outputs. -/

namespace Sys2Proof.Machine

/-! ### The alarm table's fixed columns (section 5.1) -/

/-- The 32 alarms, in id order. -/
def allAlarms : List Alarm :=
  [.safetyChainOpen, .conveyorStall, .boardJam, .boardUnannounced, .boardLengthMismatch, .scannerNoRead, .recordParity,
    .downstreamNotReady, .extractAirflowLow, .extractAirflowLost, .extractFanStall, .extractSensorLink, .extractFailed,
    .filterLoaded, .filterClogged, .fluxTankLow, .fluxPressureLow, .fluxNoFlow, .fluxDoseOut, .zoneDeviation,
    .zoneSensor, .zoneOvertemp, .boardTopOut, .potNotReady, .potSensor, .potOvertemp, .solderLevelLow,
    .solderLevelHigh, .wireFeedTimeout, .levelEchoLost, .wavePumpSpeed, .wavePumpStall]

/-- An alarm's id. -/
def Alarm.id (a : Alarm) : Fin 32 := Fin.ofNat 32 (allAlarms.idxOf a)

/-- The alarm of an id. -/
def Alarm.ofId (i : Fin 32) : Alarm := allAlarms.getD i.val .safetyChainOpen

/-- An alarm's class. -/
def Alarm.cls : Alarm → AlarmClass
  | .safetyChainOpen | .conveyorStall | .boardJam | .extractFailed | .zoneOvertemp | .potSensor | .potOvertemp => .safe
  | .extractAirflowLost | .extractFanStall | .extractSensorLink | .fluxPressureLow | .fluxNoFlow => .stopFlux
  | .boardUnannounced | .downstreamNotReady | .extractAirflowLow | .filterClogged | .fluxTankLow | .zoneDeviation
  | .zoneSensor | .potNotReady | .solderLevelLow | .solderLevelHigh | .levelEchoLost | .wavePumpSpeed
  | .wavePumpStall => .hold
  | .boardLengthMismatch | .scannerNoRead | .recordParity | .filterLoaded | .fluxDoseOut | .boardTopOut
  | .wireFeedTimeout => .note

/-- An alarm of pulse kind. -/
def Alarm.isPulse : Alarm → Bool
  | .boardJam | .boardLengthMismatch | .scannerNoRead | .recordParity | .extractFailed | .fluxNoFlow | .fluxDoseOut
  | .boardTopOut | .wireFeedTimeout => true
  | .safetyChainOpen | .conveyorStall | .boardUnannounced | .downstreamNotReady | .extractAirflowLow
  | .extractAirflowLost | .extractFanStall | .extractSensorLink | .filterLoaded | .filterClogged | .fluxTankLow
  | .fluxPressureLow | .zoneDeviation | .zoneSensor | .zoneOvertemp | .potNotReady | .potSensor | .potOvertemp
  | .solderLevelLow | .solderLevelHigh | .levelEchoLost | .wavePumpSpeed | .wavePumpStall => false

/-- An alarm flagged CONVEYOR_STOP. -/
def Alarm.stopsConveyor (a : Alarm) : Bool := a == .safetyChainOpen || a == .conveyorStall || a == .boardJam

/-- An alarm's entry. -/
def State.alarm (s : State) (a : Alarm) : AlarmEntry := s.amc.alarms[a.id]

/-- An alarm acts while it is not QUIET (R80). -/
def State.alarmOut (s : State) (a : Alarm) : Bool := (s.alarm a).state != .quiet

/-- The condition of a condition alarm is present: ACTIVE or HELD (R81). -/
def State.present (s : State) (a : Alarm) : Bool := (s.alarm a).state == .active || (s.alarm a).state == .held

/-- Some alarm of a class is not QUIET. -/
def State.classOut (s : State) (c : AlarmClass) : Bool := allAlarms.any fun a => a.cls == c && s.alarmOut a

/-- The machine condition (R85). -/
def State.condition (s : State) : Condition :=
  if s.classOut .safe then .safe
  else if s.classOut .stopFlux then .stopFlux
  else if s.classOut .hold then .hold
  else .normal

/-- The conveyor-stop signal (R86). -/
def State.conveyorStop (s : State) : Bool := allAlarms.any fun a => a.stopsConveyor && s.alarmOut a

/-- The SAFE-class alarms that are not QUIET, in id order. -/
def State.safeOut (s : State) : List Alarm := allAlarms.filter fun a => a.cls == .safe && s.alarmOut a

/-! ### Annunciators (R87) and the attention line (R13) -/

/-- The beacon lamps; all dark during power-on initialisation. -/
inductive Lamp where
  | dark | red | amber | green
  deriving DecidableEq, Repr

/-- The horn output. -/
def State.horn (s : State) : Bool :=
  s.hpx.phase != .initialising &&
    allAlarms.any fun a => a.cls != .note && ((s.alarm a).state == .active || (s.alarm a).state == .latched)

/-- The lamp that is lit. -/
def State.beacon (s : State) : Lamp :=
  if s.hpx.phase = .initialising then .dark
  else if s.condition = .stopFlux ∨ s.condition = .safe then .red
  else if s.condition = .hold ∨ s.amc.mode ≠ .production then .amber
  else .green

/-- The attention line: some class is set in both ATTN and ATTN_MASK. -/
def State.attnLine (s : State) : Bool := (s.hpx.attn &&& s.hpx.attnMask) != 0

/-! ### Changeover and requests in flight -/

/-- The changeover phase published by AMC is SETTLE. -/
def State.inSettle (s : State) : Bool :=
  match s.amc.changeover with
  | some { switchedAt := some _, .. } => true
  | some { switchedAt := none, .. } | none => false

/-- The changeover phase as published: 0 NONE, 1 DRAIN, 2 SETTLE. -/
def State.changeoverPhase (s : State) : Nat :=
  match s.amc.changeover with
  | none => 0
  | some { switchedAt := none, .. } => 1
  | some { switchedAt := some _, .. } => 2

/-- The purge is in its spraying phase. -/
def State.spraying (s : State) : Bool :=
  match s.fxc.purge with
  | some { phase := .spray _, .. } => true
  | some { phase := .wait, .. } | none => false

/-- STANDBY, PRODUCTION or DRAINING: the modes in which heaters, pumps and feeder may work. -/
def Mode.works : Mode → Bool
  | .standby | .production | .draining => true
  | .config | .safe => false

/-- PRODUCTION or DRAINING. -/
def Mode.runs : Mode → Bool
  | .production | .draining => true
  | .config | .standby | .safe => false

/-- NORMAL or HOLD: the machine conditions that permit flux. -/
def Condition.permitsFlux : Condition → Bool
  | .normal | .hold => true
  | .stopFlux | .safe => false

/-- RUNNING or DEGRADED: the extraction states that permit flux (R169). -/
def ExtractState.permitsFlux : ExtractState → Bool
  | .running | .degraded => true
  | .off | .starting | .lost => false

/-- READY or DEVIATION: the pot states in which the solder is molten (R149). -/
def PotState.molten : PotState → Bool
  | .ready | .deviation => true
  | .off | .melting | .heating | .fault => false

/-! ### Conveyor -/

/-- The run demand (R60). -/
def State.runDemand (s : State) : Bool :=
  s.amc.inForce.isSome && (s.amc.mode.runs || !s.cvt.map.isEmpty) && !s.conveyorStop

/-- The conveyor speed last handed from a line profile, 0 before the first. -/
def State.conveyorSpeed (s : State) : Nat := (s.amc.profile.map (·.speed)).getD 0

/-- The drive's target under the demand as it stands (R60). -/
def State.driveTarget (s : State) : Nat := if s.runDemand then s.conveyorSpeed else 0

/-- The drive command, ‰ of the maximum conveyor speed (R60). -/
def State.driveCommand (s : State) : Nat :=
  match s.amc.inForce with
  | some d => s.cvt.reference * 1000 / d.maxSpeed
  | none => 0

/-- The gap condition of UP_GRANT at a given travel (R74). -/
def State.gapMet (s : State) (travel : Word) : Bool :=
  match s.cvt.map.getLast? with
  | none => true
  | some { tTrail := some t, .. } => decide ((s.amc.profile.map (·.gap)).getD 0 ≤ (travel - t).toNat)
  | some { tTrail := none, .. } => false

/-- MAIN is AT_SPEED, and so is CHIP when the active profile's CHIP production speed is above 0 (R74). -/
def State.pumpsAtSpeed (s : State) : Bool :=
  s.ptc.main.state == .atSpeed &&
    ((s.amc.profile.map (·.chipProduction)).getD 0 == 0 || s.ptc.chip.state == .atSpeed)

/-- The line profile required by the recipe a docket names. -/
def State.requiredProfileOf (s : State) (d : DocketNo) : Byte := s.byteAt (recipeBase (s.recipeOf d) + 6)

/-- The arrival list is not empty and its head's recipe names the active profile (R41, R74). That the recipe's byte is
read as it stands at each use, unchecked for parity, is the model's choice (DESIGN CHOICE; assumption log, entry 37). -/
def State.headMatches (s : State) : Bool :=
  match s.dkc.arrival with
  | d :: _ => s.requiredProfileOf d == s.amc.activeProfile
  | [] => false

/-- UP_GRANT, with the gap judged at a given travel (R74). -/
def State.upGrantAt (s : State) (travel : Word) : Bool :=
  s.amc.mode == .production && s.condition == .normal && s.cvt.drive == .atSpeed && s.pumpsAtSpeed &&
    s.exm.state == .running && decide (s.cvt.map.length < 12) && s.gapMet travel && !s.cvt.entryEye &&
    s.headMatches && s.fxc.purge.isNone && s.amc.changeover.isNone

/-- UP_GRANT (R74). -/
def State.upGrant (s : State) : Bool := s.upGrantAt s.cvt.travel

/-- DN_OFFER (R75). -/
def State.dnOffer (s : State) : Bool := s.cvt.exitEdge.isSome

/-- SCN_TRIG (R45). -/
def State.scnTrig (s : State) : Bool := s.dkc.window.isSome

/-- Flux approach clear (R76). -/
def State.fluxApproachClear (s : State) : Bool :=
  !s.cvt.entryEye &&
    s.cvt.map.all fun e =>
      match e.tTrail with
      | some t => decide ((s.amc.inForce.map (·.pFlux)).getD 0 ≤ (s.cvt.travel - t).toNat)
      | none => false

/-! ### Flux permissions -/

/-- Permission for a board's fluxing to go on (R120, R122). -/
def State.boardPermission (s : State) : Bool :=
  s.amc.mode.runs && s.condition.permitsFlux && s.exm.state.permitsFlux

/-- Spray permission of a purge (R129). -/
def State.sprayPermission (s : State) : Bool :=
  s.amc.mode.works && s.condition.permitsFlux && s.exm.state.permitsFlux

/-- The flux state published (R131): 0 NONE, 1 FLUXING, 2 INTERRUPTED. -/
def State.fluxState (s : State) : Nat :=
  match s.fxc.board with
  | none => 0
  | some b => if b.interrupted then 2 else 1

/-- The purge phase published: 0 NONE, 1 WAIT, 2 SPRAY. -/
def State.purgePhase (s : State) : Nat :=
  match s.fxc.purge with
  | none => 0
  | some { phase := .wait, .. } => 1
  | some { phase := .spray _, .. } => 2

/-! ### Outputs of the pot and the extraction -/

/-- The fan output (R168). -/
def State.fanOutput (s : State) : Nat := if s.exm.fanOn then (s.amc.inForce.map (·.fanDuty)).getD 0 else 0

/-- The wire feeder output (section 9.5). -/
def State.feederOutput (s : State) : Bool := s.ptc.feeder == .feeding

/-- The average distance of the level average (R159). -/
def State.averageDistance (s : State) : Nat := s.ptc.distances.sum / s.ptc.distances.length

/-- The level in mm, absent while the average is empty (R159). -/
def State.level (s : State) : Option Int :=
  if s.ptc.distances.isEmpty then none
  else some ((s.ptc.workingRef.getD 0 : Int) - (s.averageDistance : Int))

/-- The level as a halfword of the status page or of a detail, absent marker where absent (R159, R174). -/
def State.levelHalf (s : State) : Half :=
  match s.level with
  | some l => encSigned l
  | none => 0xFFFF

/-- The grace remaining in whole seconds, rounded up; absent while the timer is stopped (R172). -/
def State.graceRemaining (s : State) : Half :=
  match s.exm.grace with
  | .stopped => 0xFFFF
  | .running t =>
    let total := 1000 * (s.amc.inForce.map (·.grace)).getD 0
    BitVec.ofNat 16 ((total - s.since t + 999) / 1000)
  | .expired => 0

end Sys2Proof.Machine
end

