-- ==== Sys2Proof/Machine/View.lean ====
section
/-! DEFINITION. The status page and the alarm table as the bytes the host reads (sections 11.3 and 11.4), computed from the
state that each field shows (assumption log, entry 2), and exchange memory as a whole. -/

namespace Sys2Proof.Machine

/-- Byte `i` (0 or 1) of a halfword. -/
def halfByte (h : Half) (i : Nat) : Byte := if i = 0 then loByte h else hiByte h

/-- Byte `i` (0 to 3) of a 32-bit field. -/
def wordByte (w : Word) (i : Nat) : Byte := if i < 2 then halfByte (loHalf w) i else halfByte (hiHalf w) (i - 2)

/-- A small code as a byte. -/
def codeByte (n : Nat) : Byte := BitVec.ofNat 8 n

def Mode.code : Mode → Nat
  | .config => 0
  | .standby => 1
  | .production => 2
  | .draining => 3
  | .safe => 4

def Condition.code : Condition → Nat
  | .normal => 0
  | .hold => 1
  | .stopFlux => 2
  | .safe => 3

def DriveState.code : DriveState → Nat
  | .stopped => 0
  | .ramping => 1
  | .atSpeed => 2
  | .offSpeed => 3
  | .stalled => 4

def ZoneState.code : ZoneState → Nat
  | .off => 0
  | .settling => 1
  | .ready => 2
  | .deviation => 3
  | .fault => 4

def PotState.code : PotState → Nat
  | .off => 0
  | .melting => 1
  | .heating => 2
  | .ready => 3
  | .deviation => 4
  | .fault => 5

def LevelState.code : LevelState → Nat
  | .unknown => 0
  | .normal => 1
  | .low => 2
  | .lowLow => 3
  | .high => 4

def FeederState.code : FeederState → Nat
  | .idle => 0
  | .feeding => 1
  | .blocked => 2

def ExtractState.code : ExtractState → Nat
  | .off => 0
  | .starting => 1
  | .running => 2
  | .degraded => 3
  | .lost => 4

def ResultStatus.code : ResultStatus → Nat
  | .none => 0
  | .ok => 1
  | .overrange => 2
  | .noEdge => 3
  | .abandoned => 4

def AlarmState.code : AlarmState → Nat
  | .quiet => 0
  | .active => 1
  | .held => 2
  | .latched => 3

def AlarmClass.code : AlarmClass → Nat
  | .note => 0
  | .hold => 1
  | .stopFlux => 2
  | .safe => 3

def RefusalReason.code : RefusalReason → Half
  | .none => 0
  | .unmapped => 1
  | .protectedBytes => 2
  | .notConfig => 3
  | .profileInUse => 4
  | .locked => 5
  | .transition => 6
  | .pinned => 7

/-- A channel's temperature in the status page: absent until the first good frame (R145, R166). -/
def State.channelTemp (s : State) (c : Fin 8) : Half :=
  match (s.tlk.channels[c]).lastGood with
  | some t => encSignedHalf t
  | none => 0xFFFF

/-- The channels of the pot. -/
def chanPotA : Fin 8 := 6
def chanPotB : Fin 8 := 7

/-- The lines byte (0x11). -/
def State.linesByte (s : State) : Byte :=
  codeByte (s.cvt.upOffer.toNat + 2 * s.upGrant.toNat + 4 * s.dnOffer.toNat + 8 * s.cvt.dnAccept.toNat +
    16 * s.cvt.entryEye.toNat + 32 * s.cvt.exitEye.toNat)

/-- The single-byte fields of the status page outside the zones and the latest-result table. -/
def statusLow (s : State) (a : Nat) : Byte :=
  match a with
  | 0x00 => codeByte s.amc.mode.code
  | 0x01 => codeByte s.condition.code
  | 0x02 => s.amc.activeProfile
  | 0x03 => codeByte s.changeoverPhase
  | 0x0E => codeByte s.cvt.drive.code
  | 0x0F => codeByte s.cvt.map.length
  | 0x10 => codeByte s.dkc.arrival.length
  | 0x11 => s.linesByte
  | 0x12 => codeByte s.fluxState
  | 0x13 => docketByte (s.fxc.board.map (·.docket))
  | 0x14 => codeByte s.purgePhase
  | 0x3E => codeByte s.ptc.pot.state.code
  | 0x3F => codeByte s.ptc.levelState.code
  | 0x48 => codeByte s.ptc.chip.state.code
  | 0x49 => codeByte s.ptc.main.state.code
  | 0x4E => codeByte s.ptc.feeder.code
  | 0x4F => codeByte s.exm.state.code
  | _ => 0

/-- The 16-bit fields of the status page outside the zones, by the field's offset. -/
def statusHalf (s : State) (off : Nat) : Half :=
  match off with
  | 0x04 => loHalf s.lineClock
  | 0x06 => hiHalf s.lineClock
  | 0x08 => loHalf s.cvt.travel
  | 0x0A => hiHalf s.cvt.travel
  | 0x0C => BitVec.ofNat 16 s.cvt.measuredSpeed
  | 0x3A => s.channelTemp chanPotA
  | 0x3C => s.channelTemp chanPotB
  | 0x40 => BitVec.ofNat 16 s.ptc.chip.command
  | 0x42 => optHalf s.ptc.chip.measured
  | 0x44 => BitVec.ofNat 16 s.ptc.main.command
  | 0x46 => optHalf s.ptc.main.measured
  | 0x4A => s.levelHalf
  | 0x4C => BitVec.ofNat 16 (s.ptc.workingRef.getD 0)
  | 0x50 => optHalf s.exm.ductDp
  | 0x52 => optHalf s.exm.filterDp
  | 0x54 => optHalf s.exm.fanRpm
  | 0x56 => s.graceRemaining
  | _ => 0

/-- The offsets of the 16-bit fields of `statusHalf`. -/
def statusHalfOffsets : List Nat :=
  [0x04, 0x06, 0x08, 0x0A, 0x0C, 0x3A, 0x3C, 0x40, 0x42, 0x44, 0x46, 0x4A, 0x4C, 0x50, 0x52, 0x54, 0x56]

/-- A zone's six bytes in the status page: temperature, duty, state, unused. -/
def zoneByte (s : State) (z : ZoneNo) (i : Nat) : Byte :=
  let zone := s.phc.zones[z]
  match i with
  | 0 | 1 => halfByte (s.channelTemp (z.castLE (by decide))) i
  | 2 | 3 => halfByte (BitVec.ofNat 16 zone.activeDuty) (i - 2)
  | 4 => codeByte zone.state.code
  | _ => 0

/-- A latest-result entry's twelve bytes. -/
def resultByte (r : LatestResult) (i : Nat) : Byte :=
  if i < 4 then wordByte (optWord r.value) i
  else if i < 8 then wordByte (optWord r.time) (i - 4)
  else if i = 8 then codeByte r.status.code
  else if i = 9 then r.seq
  else 0

/-- The status page, 0x0000 to 0x00FF; unused bytes read 0 (R175). -/
def statusByte (s : State) (a : Nat) : Byte :=
  if 0x16 ≤ a ∧ a < 0x3A then zoneByte s (Fin.ofNat 6 ((a - 0x16) / 6)) ((a - 0x16) % 6)
  else if 0x60 ≤ a ∧ a < 0xB4 then resultByte (s.cta.results[Fin.ofNat 7 ((a - 0x60) / 12)]) ((a - 0x60) % 12)
  else if a - a % 2 ∈ statusHalfOffsets then halfByte (statusHalf s (a - a % 2)) (a % 2)
  else statusLow s a

/-- The bytes of an alarm entry (section 11.4). -/
def alarmEntryByte (a : Alarm) (e : AlarmEntry) (i : Nat) : Byte :=
  match i with
  | 0 => codeByte a.id.val
  | 1 => codeByte e.state.code
  | 2 => codeByte a.cls.code
  | 3 => codeByte (a.stopsConveyor.toNat + 2 * a.isPulse.toNat)
  | 4 | 5 => halfByte e.occurrences (i - 4)
  | 6 | 7 => halfByte e.detail (i - 6)
  | 8 => docketByte e.docket
  | 10 | 11 | 12 | 13 => wordByte e.time (i - 10)
  | _ => 0

/-- The alarm table, 0x0100 to 0x02FF. -/
def alarmByte (s : State) (a : Nat) : Byte :=
  let i : Fin 32 := Fin.ofNat 32 ((a - 0x100) / 16)
  alarmEntryByte (Alarm.ofId i) (s.amc.alarms[i]) ((a - 0x100) % 16)

/-- A byte of exchange memory, 0x0000 to 0x3FFF. -/
def State.xmByte (s : State) (a : Nat) : Byte :=
  if a < 0x100 then statusByte s a
  else if a < 0x300 then alarmByte s a
  else s.byteAt a

/-- A halfword of exchange memory. -/
def State.xmHalf (s : State) (a : Nat) : Half := joinHalf (s.xmByte a) (s.xmByte (a + 1))

/-- The byte at an address holds bad parity.  The status page and the alarm table are written by the part alone, whose
writes store good parity (R3). -/
def State.xmBad (s : State) (a : Nat) : Bool := s.xm.isBad a

end Sys2Proof.Machine
end

