-- ==== Sys2Proof/Machine/Alarms.lean ====
section
/-! DEFINITION. Claims on the alarm entries at AMC (R81 to R84), as changes of the table alone; what an alarm change brings
about in the blocks is in Flux.lean (permission to flux) and Modes.lean (SAFE and the conveyor-stop signal). -/

namespace Sys2Proof.Machine

/-- Replace an alarm's entry. -/
def putAlarm (a : Alarm) (e : AlarmEntry) (s : State) : State :=
  { s with amc.alarms := s.amc.alarms.set a.id e }

/-- Change an alarm's state; HPX sets ATTN.ALARM when it changes (R83). -/
def setAlarmState (a : Alarm) (st : AlarmState) (s : State) : State :=
  let e := s.alarm a
  if e.state = st then s else setAttn .alarm (putAlarm a { e with state := st } s)

/-- Record an appearance or an occurrence (R83); a detail of −1 is carried as −2 (R174). -/
def recordAlarm (a : Alarm) (detail : Half) (docket : Option DocketNo) (s : State) : State :=
  let e := s.alarm a
  putAlarm a
    { e with occurrences := if e.occurrences = 0xFFFF then 0xFFFF else e.occurrences + 1
             detail := encSignedHalf detail, docket := docket, time := s.lineClock } s

/-- A raise claim (R81). -/
def claimRaise (a : Alarm) (detail : Half) (docket : Option DocketNo) (s : State) : State :=
  match (s.alarm a).state with
  | .quiet | .latched => setAlarmState a .active (recordAlarm a detail docket s)
  | .active | .held => s

/-- A clear claim (R81). -/
def claimClear (a : Alarm) (s : State) : State :=
  match (s.alarm a).state with
  | .active => setAlarmState a .latched s
  | .held => setAlarmState a .quiet s
  | .quiet | .latched => s

/-- A pulse claim (R82). -/
def claimPulse (a : Alarm) (detail : Half) (docket : Option DocketNo) (s : State) : State :=
  setAlarmState a .latched (recordAlarm a detail docket s)

/-- The state an acknowledgement gives (R81, R82). -/
def AlarmState.acknowledged : AlarmState → AlarmState
  | .active => .held
  | .latched => .quiet
  | .quiet => .quiet
  | .held => .held

/-- An acknowledgement of one entry. -/
def acknowledge (a : Alarm) (s : State) : State := setAlarmState a (s.alarm a).state.acknowledged s

/-- An acknowledgement of the entry would change its state. -/
def State.ackChanges (s : State) (a : Alarm) : Bool := (s.alarm a).state.acknowledged != (s.alarm a).state

/-- A detail held at 32,767 (R124, R125). -/
def detailHeld (n : Nat) : Half := BitVec.ofNat 16 (min n 32767)

/-- Some of the addresses holds a byte of bad parity. -/
def State.anyBad (s : State) (addrs : List Nat) : Bool := (firstBad s addrs).isSome

/-- Offer the first bad byte of some addresses for capture and send AMC the RECORD_PARITY pulse with its address and the
docket.  RECORD_PARITY is of class NOTE and moves nothing but its entry (R48, R50, R120). -/
def reportBad (addrs : List Nat) (d : DocketNo) (s : State) : State :=
  match firstBad s addrs with
  | some a => claimPulse .recordParity (BitVec.ofNat 16 a) (some d) (addReason d .recordParity (offerParity a s))
  | none => s

end Sys2Proof.Machine
end

