-- ==== Sys2Proof/Machine/Operands.lean ====
section
/-! DEFINITION. What the part reads from the data that enters from outside: a thermo-link frame (R111 to R113), a fume
sensor read (R114), a scanner character (R43), a pulse count as a speed or a dose (R124, R154, R171), and the sources'
numbers. -/

namespace Sys2Proof.Machine

/-! ### Thermo-link frames (section 11.10) -/

/-- The fields of a thermo-link frame. -/
structure ThermoFrame where
  marker : Bool
  fault : Nat
  count : BitVec 4
  temp : Half
  checkOk : Bool
  deriving DecidableEq, Repr

/-- A frame from its four bytes in order of transfer. -/
def ThermoFrame.ofBytes (b0 b1 b2 b3 : Byte) : ThermoFrame :=
  { marker := b0.getLsbD 7
    fault := (b0.extractLsb' 4 3).toNat
    count := b0.extractLsb' 0 4
    temp := b1 ++ b2
    checkOk := b3 == b0 ^^^ b1 ^^^ b2 ^^^ 0xA5 }

/-- Why a frame is bad (R112). -/
inductive BadKind where
  | marker | check | count
  | fault (code : Nat)
  deriving DecidableEq, Repr

/-- The judgement of a frame against the channel's reference count: none when it is good (R112). -/
def ThermoFrame.judge (f : ThermoFrame) (reference : Option (BitVec 4)) : Option BadKind :=
  if !f.marker then some .marker
  else if !f.checkOk then some .check
  else if reference.any (fun r => f.count != r + 1) then some .count
  else if f.fault ≠ 0 then some (.fault f.fault)
  else none

/-- The channel's reference count after a frame (R112). -/
def ThermoFrame.nextReference (f : ThermoFrame) (reference : Option (BitVec 4)) : Option (BitVec 4) :=
  if f.marker && f.checkOk then some f.count else reference.map (· + 1)

/-- The detail of a fault notice given at a bad frame: its fault code, or 0 (R113). -/
def BadKind.detail : BadKind → Nat
  | .fault c => c
  | .marker | .check | .count => 0

/-- What TLK hands a block with a frame (R112, R113). -/
inductive ThermoNotice where
  | none
  | fault (detail : Nat)
  | restore
  deriving DecidableEq, Repr

/-- A channel after a frame, and the notice that goes with it. -/
def ThermoChannel.take (c : ThermoChannel) (f : ThermoFrame) : ThermoChannel × ThermoNotice :=
  match f.judge c.reference with
  | Option.none =>
    let run := min 3 (c.goodRun + 1)
    let back := c.faulted && run == 3
    ({ c with lastGood := some f.temp, suspect := false, reference := f.nextReference c.reference, badRun := 0,
              goodRun := run, faulted := c.faulted && !back },
      if back then .restore else .none)
  | some k =>
    let run := min 3 (c.badRun + 1)
    let newly := !c.faulted && run == 3
    ({ c with suspect := true, reference := f.nextReference c.reference, badRun := run, goodRun := 0,
              faulted := c.faulted || newly, faultDetail := if newly then k.detail else c.faultDetail },
      if newly then .fault k.detail else .none)

/-! ### Fume sensor reads -/

/-- One bit step of the CRC-8 with polynomial 0x31. -/
def crcStep (c : Byte) : Byte := if c.getLsbD 7 then (c <<< 1) ^^^ 0x31 else c <<< 1

/-- One byte of the CRC-8, most significant bit first. -/
def crcByte (c b : Byte) : Byte :=
  crcStep (crcStep (crcStep (crcStep (crcStep (crcStep (crcStep (crcStep (c ^^^ b))))))))

/-- The CRC-8 of the two pressure bytes, initial value 0xFF (R114). -/
def fumeCrc (b0 b1 : Byte) : Byte := crcByte (crcByte 0xFF b0) b1

/-- How a poll ends: good with the pressure, or failed with its kind (R114). -/
inductive PollEnd where
  | good (pressure : Half)
  | stuck | nack | crc
  deriving DecidableEq, Repr

/-- The end of a poll from what it meets on the bus (R114). -/
def pollEnd : FumeBus → PollEnd
  | .stuck => .stuck
  | .nack => .nack
  | .bytes b0 b1 b2 => if fumeCrc b0 b1 = b2 then .good (b0 ++ b1) else .crc

/-- What FLK hands EXM about the link with a poll (R115). -/
inductive LinkNotice where
  | none | fault | clear
  deriving DecidableEq, Repr

/-- A sensor channel after a poll, and the notice that goes with it (R115). -/
def FumeChannel.take (c : FumeChannel) (good : Bool) : FumeChannel × LinkNotice :=
  if good then
    let run := min 3 (c.goodRun + 1)
    let back := c.fault && run == 3
    ({ failRun := 0, goodRun := run, fault := c.fault && !back }, if back then .clear else .none)
  else
    let run := min 5 (c.failRun + 1)
    let newly := !c.fault && run == 5
    ({ failRun := run, goodRun := 0, fault := c.fault || newly }, if newly then .fault else .none)

/-! ### Scanner characters (R43) -/

/-- The exclusive-or of a byte's bits. -/
def byteParity (b : Byte) : Bool := (List.range 8).foldl (fun p i => p ^^ b.getLsbD i) false

/-- The parity bit disagrees with the data under a parity setting. -/
def parityWrong (p : ParitySetting) (f : RxFrame) : Bool :=
  match p with
  | .none => false
  | .even => f.parityBit != byteParity f.data
  | .odd => f.parityBit == byteParity f.data

/-- The character received from a frame. -/
def rxCharOf (p : ParitySetting) (f : RxFrame) (overrun : Bool) : RxChar :=
  { data := f.data, parityError := parityWrong p f, framingError := !f.stopBit, overrun := overrun }

/-- A character marked with an error. -/
def RxChar.marked (c : RxChar) : Bool := c.parityError || c.framingError || c.overrun

/-- Carriage return. -/
def charCr : Byte := 0x0D

/-- A character of a board ID (section 6.4). -/
def isIdChar (b : Byte) : Bool := 0x20 ≤ b.toNat && b.toNat ≤ 0x7E

/-! ### Counts as quantities -/

/-- A pump's speed from a 500 ms gate (R154). -/
def pumpRpm (value ppr : Nat) : Nat := value * 120 / ppr

/-- The fan's speed from a 1,000 ms gate (R171). -/
def fanRpmOf (value ppr : Nat) : Nat := value * 60 / ppr

/-- A dose in µL from a pulse count (R124). -/
def doseOf (value k : Nat) : Nat := value * 1000 / k

/-- The distance of an echo in mm (R159). -/
def echoDistance (value usPerMm : Nat) : Nat := value * 100 / usPerMm

/-! ### Sources (section 6.1) -/

/-- A source's number. -/
def srcNumber : Source → Fin 7
  | .flow => 0
  | .tachChip => 1
  | .tachMain => 2
  | .tachFan => 3
  | .echo => 4
  | .pyro => 5
  | .aux => 6

/-- The source of a number. -/
def srcOfNumber (n : Nat) : Option Source :=
  [Source.flow, .tachChip, .tachMain, .tachFan, .echo, .pyro, .aux][n]?

/-- A counting mode's number in MEASURE (R109): 0 RATE, 1 OPEN, 2 SPAN. -/
def CountMode.number : CountMode → Nat
  | .rate _ => 0
  | .opened => 1
  | .span => 2

/-- A claim in mode RATE. -/
def CountMode.isRate : CountMode → Bool
  | .rate _ => true
  | .opened | .span => false

end Sys2Proof.Machine
end

