-- ==== Sys2Proof/Machine/Cta.lean ====
section
/-! DEFINITION. The counter array: results, grants, the claim queue, placement, preemption, closing and withdrawal (R99 to
R109).  A result that only CTA and the claim's own pattern take notice of (ABANDONED, a close) is handed over here; results
that a block judges are handed over in Results.lean. -/

namespace Sys2Proof.Machine

/-! ### Units and queue -/

/-- Replace a unit's contents. -/
def putUnit (u : UnitNo) (c : Option CountUnit) (s : State) : State := { s with cta.units := s.cta.units.set u c }

/-- A unit's contents. -/
def State.unit (s : State) (u : UnitNo) : Option CountUnit := s.cta.units[u]

/-- The unit that carries a claim of a source. -/
def State.unitOf (s : State) (src : Source) : Option UnitNo :=
  allUnits.find? fun u => (s.unit u).any fun c => c.claim.source == src

/-- The lowest-numbered free unit (R99). -/
def State.freeUnit (s : State) : Option UnitNo := allUnits.find? fun u => (s.unit u).isNone

/-- The standing claim of a source, granted or WAITING (section 6.2). -/
def State.standing (s : State) (src : Source) : Option Claim :=
  match s.unitOf src with
  | some u => (s.unit u).map (·.claim)
  | none => s.cta.queue.find? fun c => c.source == src

/-- Change the standing claim of a source in place. -/
def mapStanding (src : Source) (f : Claim → Claim) (s : State) : State :=
  match s.unitOf src with
  | some u => putUnit u ((s.unit u).map fun c => { c with claim := f c.claim }) s
  | none => { s with cta.queue := s.cta.queue.map fun c => if c.source = src then f c else c }

/-- Take the WAITING claim of a source out of the queue; the claims behind keep their order (R105). -/
def dropWaiting (src : Source) (s : State) : State :=
  { s with cta.queue := s.cta.queue.filter fun c => c.source != src }

/-- Grant a unit to a claim: ARMED with count 0, or COUNTING at once in mode OPEN; a SPAN of ECHO issues one pulse on
ECHO_TRIG (R102 to R104). -/
def grant (u : UnitNo) (c : Claim) (s : State) : State :=
  let s1 := putUnit u (some { claim := c, counting := c.mode == .opened, armed := s.amc.ticks, openedAt := s.amc.ticks,
                              count := 0 }) s
  if c.source = .echo ∧ c.mode = .span then { s1 with cta.echoTrigs := s1.cta.echoTrigs + 1 } else s1

/-- Free a unit and grant it to the claim at the head of the queue (R105). -/
def freeAndGrant (u : UnitNo) (s : State) : State :=
  match s.cta.queue with
  | c :: rest => grant u c { s with cta.queue := rest }
  | [] => putUnit u none s

/-! ### Results (R107) -/

/-- Write a result into the latest-result table. -/
def writeResult (src : Source) (status : ResultStatus) (value : Option Nat) (s : State) : State :=
  let i := srcNumber src
  let r : LatestResult :=
    { value := value.map (BitVec.ofNat 32), status := status, time := some s.lineClock, seq := s.cta.results[i].seq + 1 }
  { s with cta.results := s.cta.results.set i r }

/-- A result reaches DIAG: the MEASURE in flight ends OK with the replies of R109. -/
def measureResult (c : Claim) (status : ResultStatus) (value : Option Nat) (s : State) : State :=
  match s.cta.measure with
  | none => s
  | some m =>
    let s := { s with cta.measure := none }
    let s := putReplyWord m.cell 0 (optWord (value.map (BitVec.ofNat 32))) s
    let s := putReply m.cell 2 (BitVec.ofNat 16 status.code) s
    let s := putReply m.cell 3 ((s.cta.results[srcNumber c.source]).seq.zeroExtend 16) s
    let s := putReplyWord m.cell 4 s.lineClock s
    let s := putReply m.cell 6 (if c.claimant = .diag ∧ c.merged = false then 0 else 1) s
    let s := putReply m.cell 7 (BitVec.ofNat 16 c.mode.number) s
    endCell m.cell .ok s

/-- Hand a result to DIAG, if the claim is DIAG's own or DIAG follows it. -/
def toDiag (c : Claim) (status : ResultStatus) (value : Option Nat) (s : State) : State :=
  if c.claimant = .diag ∨ c.follower then measureResult c status value s else s

/-! ### Placement of every claim but FLOW's (R100, R101) -/

/-- A new claim of a block. -/
def blockClaim (src : Source) (m : CountMode) (who : Claimant) : Claim :=
  { source := src, mode := m, claimant := who, follower := false, merged := false }

/-- Place a claim where no claim of its source stands: the lowest-numbered free unit, or the tail of the queue. -/
def placeNew (c : Claim) (s : State) : State :=
  match s.freeUnit with
  | some u => grant u c s
  | none => { s with cta.queue := s.cta.queue ++ [c] }

/-- DIAG's claim of a source ends ABANDONED in favour of a block's, which takes its unit, or is placed anew if it was
WAITING (R101; assumption log, entry 14). -/
def displaceDiag (old c : Claim) (s : State) : State :=
  let s1 := writeResult c.source .abandoned none s
  let s2 :=
    match s1.unitOf c.source with
    | some u => grant u c s1
    | none => placeNew c (dropWaiting c.source s1)
  toDiag old .abandoned none s2

/-- A block places a claim of a source other than FLOW. -/
def placeBlock (src : Source) (m : CountMode) (who : Claimant) (s : State) : State :=
  let c := blockClaim src m who
  match s.standing src with
  | none => placeNew c s
  | some old => if old.claimant = .diag then displaceDiag old c s else s

/-- The conditions under which PTC claims a pump's tachometer again on a result (R154); the model takes them for the
pump's being claiming as well (DESIGN CHOICE; assumption log, entry 35). -/
def Pump.claims (p : Pump) : Bool := decide (0 < p.command) || p.state != .stopped

/-- The claims that a block places again on every result, ABANDONED included (R108). -/
def reclaim (c : Claim) (s : State) : State :=
  match c.claimant, c.source with
  | .ptc, .tachChip => if s.ptc.chip.claims then placeBlock .tachChip (.rate 500) .ptc s else s
  | .ptc, .tachMain => if s.ptc.main.claims then placeBlock .tachMain (.rate 500) .ptc s else s
  | .exm, .tachFan => if s.exm.fanOn then placeBlock .tachFan (.rate 1000) .exm s else s
  | _, _ => s

/-! ### FLOW claims (R100, R106) -/

/-- The unit a FLOW claim preempts: the RATE claim with the latest armed time, the lowest-numbered among equals (R106). -/
def State.preemptible (s : State) : Option UnitNo :=
  let rates := allUnits.filter fun u => (s.unit u).any fun c => c.claim.mode.isRate
  let armed : UnitNo → Nat := fun u => ((s.unit u).map (·.armed)).getD 0
  rates.find? fun u => rates.all fun v => decide (armed v ≤ armed u)

/-- Preempt a unit for a FLOW claim: its claim ends ABANDONED, FLOW is granted the unit in its mode's state (assumption
log, entry 14), and the preempted claimant may claim again behind those that wait (R106). -/
def preempt (u : UnitNo) (c : Claim) (s : State) : State :=
  match s.unit u with
  | none => s
  | some old =>
    let s1 := grant u c (writeResult old.claim.source .abandoned none s)
    reclaim old.claim (toDiag old.claim .abandoned none s1)

/-- Place a FLOW claim where none stands.  A unit is always free or preemptible (R106); were neither so, the claim would
wait. -/
def placeFlowNew (c : Claim) (s : State) : State :=
  match s.freeUnit with
  | some u => grant u c s
  | none =>
    match s.preemptible with
    | some u => preempt u c s
    | none => { s with cta.queue := s.cta.queue ++ [c] }

/-- FXC places its FLOW claim in mode OPEN. -/
def placeFlow (s : State) : State :=
  let c := blockClaim .flow .opened .fxc
  match s.standing .flow with
  | none => placeFlowNew c s
  | some old => if old.claimant = .diag then displaceDiag old c s else s

/-- DIAG places the claim of a MEASURE: merged into a standing claim as its follower, or placed (R101, R109). -/
def placeDiag (src : Source) (m : CountMode) (s : State) : State :=
  let c : Claim := { source := src, mode := m, claimant := .diag, follower := false, merged := false }
  match s.standing src with
  | some old => if old.claimant = .diag then s else mapStanding src (fun d => { d with follower := true }) s
  | none => if src = .flow then placeFlowNew c s else placeNew c s

/-! ### Closing and withdrawal (R103, R105) -/

/-- The unit in which a claimant's own OPEN claim of a source counts. -/
def State.openUnit (s : State) (src : Source) (who : Claimant) : Option UnitNo :=
  allUnits.find? fun u =>
    (s.unit u).any fun c => c.claim.source == src && c.claim.claimant == who && c.claim.mode == .opened

/-- End the OPEN claim in a unit DONE with its count, DIAG taking the result where it is due, and give the unit to the
head of the queue. -/
def endOpen (u : UnitNo) (c : CountUnit) (s : State) : State :=
  toDiag c.claim .ok (some c.count) (freeAndGrant u (writeResult c.claim.source .ok (some c.count) s))

/-- The count of FXC's FLOW claim, none where the claim has ended (R103). -/
def State.flowCount (s : State) : Option Nat := (s.openUnit .flow .fxc).bind fun u => (s.unit u).map (·.count)

/-- FXC closes its FLOW claim (R103). -/
def closeFlow (s : State) : State :=
  match s.openUnit .flow .fxc with
  | none => s
  | some u =>
    match s.unit u with
    | none => s
    | some c => endOpen u c s

/-- A withdrawn claim with a follower goes on as DIAG's (R105). -/
def Claim.toFollower (c : Claim) : Claim := { c with claimant := .diag, follower := false, merged := true }

/-- A block withdraws its claim of a source: without a result; a followed claim goes on for DIAG, an OPEN one closed with
its count so far (R105). -/
def withdraw (src : Source) (who : Claimant) (s : State) : State :=
  match s.standing src with
  | none => s
  | some c =>
    if c.claimant ≠ who then s
    else if c.follower then
      let s1 := mapStanding src Claim.toFollower s
      match s1.openUnit src .diag with
      | some u =>
        match s1.unit u with
        | some cu => endOpen u cu s1
        | none => s1
      | none => s1
    else
      match s.unitOf src with
      | some u => freeAndGrant u s
      | none => dropWaiting src s

/-- The source DIAG waits for: its own standing claim, or the claim it follows. -/
def State.diagClaim (s : State) : Option Claim :=
  [Source.flow, .tachChip, .tachMain, .tachFan, .echo, .pyro, .aux].findSome? fun src =>
    (s.standing src).filter fun c => c.claimant == .diag || c.follower

/-- CANCEL of a MEASURE takes DIAG out: its own claim is withdrawn, or DIAG is detached as a follower (R109). -/
def diagOut (s : State) : State :=
  match s.diagClaim with
  | none => s
  | some c =>
    if c.claimant = .diag then
      match s.unitOf c.source with
      | some u => freeAndGrant u s
      | none => dropWaiting c.source s
    else mapStanding c.source (fun d => { d with follower := false }) s

end Sys2Proof.Machine
end

