-- ==== Sys2Proof/Machine/Records.lean ====
section
/-! DEFINITION. The host-owned records: the machine description, the line profiles and the recipes as read from exchange
memory, and how the part judges them (R22, R25, R32, R33; layouts in sections 11.6 to 11.8). -/

namespace Sys2Proof.Machine

/-- An unsigned byte of a record. -/
def State.u8 (s : State) (a : Nat) : Nat := (s.byteAt a).toNat

/-- An unsigned 16-bit field of a record. -/
def State.u16 (s : State) (a : Nat) : Nat := (s.halfAt a).toNat

/-- A signed 16-bit field of a record. -/
def State.i16 (s : State) (a : Nat) : Int := (s.halfAt a).toInt

/-- A value lies in a range, both ends included. -/
def within (v lo hi : Nat) : Bool := decide (lo ≤ v) && decide (v ≤ hi)

/-- A signed value lies in a range, both ends included. -/
def withinInt (v lo hi : Int) : Bool := decide (lo ≤ v) && decide (v ≤ hi)

/-! ### Field judgement -/

/-- One field of a record under judgement: where it lies, whether it is examined, and whether it is in range. -/
structure FieldCheck where
  off : Nat
  size : Nat
  examined : Bool
  ok : Bool
  deriving DecidableEq, Repr

/-- The first failing field's offset, and its bad byte if parity failed it. -/
structure FieldFailure where
  off : Nat
  badByte : Option Nat
  deriving DecidableEq, Repr

/-- Judge fields in address order: "the first field, in address order, that is out of range or that holds a byte of bad
parity" (R25, R32). -/
def judgeFields (s : State) (base : Nat) : List FieldCheck → Option FieldFailure
  | [] => none
  | f :: rest =>
    if f.examined then
      match firstBad s (span (base + f.off) f.size) with
      | some a => some { off := f.off, badByte := some a }
      | none => if f.ok then judgeFields s base rest else some { off := f.off, badByte := none }
    else judgeFields s base rest

/-- Offer the bad byte of a failed judgement for capture (R4). -/
def offerFailure (f : Option FieldFailure) (s : State) : State :=
  match f with
  | some { badByte := some a, .. } => offerParity a s
  | some { badByte := none, .. } | none => s

/-! ### The machine description (section 11.6) -/

/-- The machine description's address. -/
def descBase : Nat := 0x400

/-- A 16-bit field with an unsigned range. -/
def State.check16 (s : State) (base off lo hi : Nat) : FieldCheck :=
  { off := off, size := 2, examined := true, ok := within (s.u16 (base + off)) lo hi }

/-- A byte field with a range. -/
def State.check8 (s : State) (base off lo hi : Nat) : FieldCheck :=
  { off := off, size := 1, examined := true, ok := within (s.u8 (base + off)) lo hi }

/-- A field whose range check is joined by a condition on earlier fields. -/
def FieldCheck.also (f : FieldCheck) (cond : Bool) : FieldCheck := { f with ok := f.ok && cond }

/-- A level threshold: signed, −1,000 to 1,000, strictly above the one before it (R32). -/
def State.checkLevel (s : State) (off : Nat) (above : Bool) : FieldCheck :=
  { off := off, size := 2, examined := true, ok := withinInt (s.i16 (descBase + off)) (-1000) 1000 && above }

/-- The geometry and conveyor fields of the machine description with the ranges of R32, in address order. -/
def descGeometryChecks (s : State) : List FieldCheck :=
  [s.check16 descBase 0 0 1000, s.check16 descBase 2 20 200, s.check16 descBase 4 0 6000, s.check16 descBase 6 0 6000,
    s.check16 descBase 8 100 1500, s.check16 descBase 10 100 1500, s.check16 descBase 12 100 1500,
    s.check16 descBase 14 100 1500, s.check16 descBase 16 100 1500, s.check16 descBase 18 100 1500,
    s.check16 descBase 20 0 6000, s.check16 descBase 22 0 6000, s.check16 descBase 24 10 200,
    s.check16 descBase 26 0 6000, s.check16 descBase 28 10 200, s.check16 descBase 30 1 6000,
    s.check16 descBase 32 10 200, s.check16 descBase 34 1 255, s.check16 descBase 36 300 3000,
    s.check16 descBase 38 500 5000]

/-- The scanner, speed, fume and extraction fields with the ranges of R32, in address order. -/
def descSensorChecks (s : State) : List FieldCheck :=
  [s.check8 descBase 40 0 1, s.check8 descBase 41 0 2, s.check8 descBase 42 0 3, s.check8 descBase 43 0 1,
    s.check8 descBase 44 1 32, s.check8 descBase 45 1 32, s.check8 descBase 46 1 32,
    s.check16 descBase 48 100 1000, s.check16 descBase 50 100 6000, s.check8 descBase 52 0x08 0x77,
    (s.check8 descBase 53 0x08 0x77).also (s.u8 (descBase + 53) != s.u8 (descBase + 52)),
    s.check16 descBase 54 1 5000,
    (s.check16 descBase 56 1 5000).also (decide (s.u16 (descBase + 56) < s.u16 (descBase + 54))),
    s.check16 descBase 58 1 5000,
    (s.check16 descBase 60 1 5000).also (decide (s.u16 (descBase + 58) < s.u16 (descBase + 60))),
    s.check16 descBase 62 0 500, s.check16 descBase 64 10 120, s.check16 descBase 66 10 300,
    s.check16 descBase 68 60 1800]

/-- The preheat, level and profile fields with the ranges of R32, in address order. -/
def descLevelChecks (s : State) : List FieldCheck :=
  [s.check16 descBase 70 50 500, s.check16 descBase 72 100 2000, s.check16 descBase 74 1 1000,
    s.checkLevel 76 true,
    s.checkLevel 78 (decide (s.i16 (descBase + 76) < s.i16 (descBase + 78))),
    s.checkLevel 80 (decide (s.i16 (descBase + 78) < s.i16 (descBase + 80))),
    s.checkLevel 82 (decide (s.i16 (descBase + 80) < s.i16 (descBase + 82))),
    s.check16 descBase 84 10 600, s.check8 descBase 86 0 3]

/-- Every field of R32. -/
def descChecks (s : State) : List FieldCheck := descGeometryChecks s ++ descSensorChecks s ++ descLevelChecks s

/-- The end of zone 6: P_zone1 plus the six zone lengths (R33). -/
def State.zonesEnd (s : State) : Nat :=
  s.u16 (descBase + 6) + s.u16 (descBase + 8) + s.u16 (descBase + 10) + s.u16 (descBase + 12) + s.u16 (descBase + 14) +
    s.u16 (descBase + 16) + s.u16 (descBase + 18)

/-- The offset of the field that fails the geometry order, if one does (R33). -/
def geometryFailure (s : State) : Option Nat :=
  let f := fun off => s.u16 (descBase + off)
  if ¬ f 0 + f 2 < f 4 then some 4
  else if ¬ f 4 < f 6 then some 6
  else if ¬ s.zonesEnd ≤ f 20 then some 20
  else if ¬ f 20 < f 22 then some 22
  else if ¬ f 22 < f 26 then some 26
  else if ¬ f 26 + f 28 + f 32 < f 30 then some 30
  else if ¬ f 30 ≤ 6000 then some 30
  else none

/-- The scanner parity setting of a stored code. -/
def paritySettingOf (b : Nat) : ParitySetting := if b = 1 then .even else if b = 2 then .odd else .none

/-- The machine description as stored (section 11.6). -/
def storedDescription (s : State) : Description :=
  let h := fun off => s.u16 (descBase + off)
  let b := fun off => s.u8 (descBase + off)
  let i := fun off => s.i16 (descBase + off)
  { pScan := h 0, wScan := h 2, pFlux := h 4, pZone1 := h 6,
    zoneLen := #v[h 8, h 10, h 12, h 14, h 16, h 18],
    pPyro := h 20, pChip := h 22, wChip := h 24, pMain := h 26, wMain := h 28, pExit := h 30, jam := h 32,
    prescaler := h 34, maxSpeed := h 36, stallTime := h 38,
    scannerPresent := b 40 == 1, scannerParity := paritySettingOf (b 41), baud := b 42,
    policy := if b 43 = 1 then .strict else .order,
    pprChip := b 44, pprMain := b 45, pprFan := b 46, fanDuty := h 48, fanMin := h 50, ductAddr := b 52,
    filterAddr := b 53, ductLow := h 54, ductLost := h 56, filterWarn := h 58, filterLimit := h 60,
    hysteresis := h 62, suppression := h 64, grace := h 66, runOn := h 68, margin := h 70, usPerMm := h 72,
    levelRef := h 74, lowLow := i 76, feedOn := i 78, feedOff := i 80, highHigh := i 82, maxFeed := h 84,
    initialProfile := b 86 }

/-- The initial profile field as stored (R26). -/
def State.initialProfileByte (s : State) : Byte := s.byteAt (descBase + 86)

/-! ### Line profiles (section 11.7) -/

/-- A line profile's address. -/
def profileBase (n : Nat) : Nat := 0x500 + 64 * n

/-- The checks of one zone's settings: a zone with setpoint 0 is disabled and its other fields are not examined. -/
def zoneChecks (s : State) (base k : Nat) : List FieldCheck :=
  let o := 6 * k
  let sp := s.u16 (base + o)
  let on := sp != 0
  [{ off := o, size := 2, examined := true, ok := sp == 0 || within sp 500 3500 },
    { s.check16 base (o + 2) 10 300 with examined := on },
    { s.check8 base (o + 4) 0 200 with examined := on },
    { (s.check8 base (o + 5) 0 200).also (decide (s.u8 (base + o + 4) ≤ s.u8 (base + o + 5))) with examined := on }]

/-- The pot, pump, conveyor and flux fields of a profile, in address order. -/
def profileTailChecks (s : State) (base : Nat) : List FieldCheck :=
  [s.check16 base 36 5 600, s.check16 base 38 2300 3000, s.check8 base 40 10 100, s.check8 base 41 0 200,
    (s.check8 base 42 0 200).also (decide (s.u8 (base + 41) ≤ s.u8 (base + 42))),
    s.check8 base 43 20 120,
    (s.check16 base 44 1800 2400).also (decide (s.u16 (base + 44) < s.u16 (base + 38))),
    s.check16 base 46 5 600, s.check8 base 48 0 150, s.check8 base 49 0 150, s.check8 base 50 10 150,
    s.check8 base 51 0 150,
    (s.check16 base 52 300 3000).also (decide (s.u16 (base + 52) ≤ s.u16 (descBase + 36))),
    s.check16 base 54 20 500, s.check16 base 56 20 500, s.check16 base 58 100 20000, s.check16 base 60 60 3600]

/-- Every field of a profile (section 2.3), in address order. -/
def profileChecks (s : State) (base : Nat) : List FieldCheck :=
  zoneChecks s base 0 ++ zoneChecks s base 1 ++ zoneChecks s base 2 ++ zoneChecks s base 3 ++ zoneChecks s base 4 ++
    zoneChecks s base 5 ++ profileTailChecks s base

/-- The judgement of line profile n (R25): none when it is valid. -/
def profileFailure (s : State) (n : Nat) : Option FieldFailure :=
  judgeFields s (profileBase n) (profileChecks s (profileBase n))

/-- The reads of a profile's judgement: the stored maximum conveyor speed is read at the conveyor speed check, and a
failing field's bad byte is offered (R4, R25). -/
def offerProfileReads (f : Option FieldFailure) (s : State) : State :=
  let reached :=
    match f with
    | none => true
    | some g => decide (52 < g.off) || (g.off == 52 && g.badByte.isNone)
  offerFailure f (if reached then readChecked (span (descBase + 36) 2) s else s)

/-- One zone's settings as stored, in full units (R174: duties in steps of 5 ‰). -/
def storedZone (s : State) (base k : Nat) : ZoneSettings :=
  { setpoint := s.u16 (base + 6 * k), band := s.u16 (base + 6 * k + 2), hold := 5 * s.u8 (base + 6 * k + 4),
    maxDuty := 5 * s.u8 (base + 6 * k + 5) }

/-- Line profile n as stored, in full units (R174: duties in steps of 5 ‰, pump speeds in steps of 10 rpm).  The fields
of a disabled zone are copied without a parity check (assumption log, entry 25). -/
def storedProfile (s : State) (n : Nat) : Profile :=
  let b := profileBase n
  { zones := #v[storedZone s b 0, storedZone s b 1, storedZone s b 2, storedZone s b 3, storedZone s b 4,
      storedZone s b 5],
    zoneSettle := s.u16 (b + 36), potSetpoint := s.u16 (b + 38), potBand := s.u8 (b + 40), potHold := 5 * s.u8 (b + 41),
    potMax := 5 * s.u8 (b + 42), meltCap := 5 * s.u8 (b + 43), melt := s.u16 (b + 44), potSettle := s.u16 (b + 46),
    chipProduction := 10 * s.u8 (b + 48), chipIdle := 10 * s.u8 (b + 49), mainProduction := 10 * s.u8 (b + 50),
    mainIdle := 10 * s.u8 (b + 51), speed := s.u16 (b + 52), gap := s.u16 (b + 54), valvePeriod := s.u16 (b + 56),
    kFactor := s.u16 (b + 58), changeoverLimit := s.u16 (b + 60) }

/-! ### Recipes (section 11.8) -/

/-- Why validation of a recipe fails (R22; codes in section 11.8). -/
inductive RecipeReason where
  | none | range | bandOrder | bandLength | profile | parity
  deriving DecidableEq, Repr

/-- A reason's code. -/
def RecipeReason.code : RecipeReason → Byte
  | .none => 0
  | .range => 1
  | .bandOrder => 2
  | .bandLength => 3
  | .profile => 4
  | .parity => 5

/-- A recipe's band count. -/
def State.bandCount (s : State) (r : RecipeNo) : Nat := s.u8 (recipeBase r + 14)

/-- The address of band b of a recipe. -/
def bandBase (r : RecipeNo) (b : Nat) : Nat := recipeBase r + 16 + 8 * b

/-- The addresses of a band's fields; byte +5 is unused. -/
def bandAddrs (r : RecipeNo) (b : Nat) : List Nat := span (bandBase r b) 5 ++ span (bandBase r b + 6) 2

/-- The addresses of a recipe's first n bands. -/
def bandsAddrs (r : RecipeNo) (n : Nat) : List Nat := (List.range n).flatMap (bandAddrs r)

/-- A band as stored. -/
def storedBand (s : State) (r : RecipeNo) (b : Nat) : Band :=
  { first := s.u16 (bandBase r b), last := s.u16 (bandBase r b + 2),
    load := { valves := s.byteAt (bandBase r b + 4), duty := s.u16 (bandBase r b + 6) } }

/-- The meaningful bands of a recipe. -/
def storedBands (s : State) (r : RecipeNo) : List Band := (List.range (s.bandCount r)).map (storedBand s r)

/-- The recipe fields' addresses that validation reads: the band count first, then the others in address order; the band
list is read only when the band count is at most 12 (R22). -/
def recipeReadAddrs (s : State) (r : RecipeNo) : List Nat :=
  let b := recipeBase r
  [b + 14] ++ span (b + 3) 11 ++ (if s.bandCount r ≤ 12 then bandsAddrs r (s.bandCount r) else []) ++
    span (b + 112) 14

/-- The range check of a band's own fields (section 2.1 and R22: at least one valve). -/
def bandInRange (b : Band) : Bool := b.load.valves != 0 && within b.load.duty 100 1000

/-- Every field of a recipe lies in its range and every window's minimum is not above its maximum (R22). -/
def recipeInRange (s : State) (r : RecipeNo) : Bool :=
  let b := recipeBase r
  within (s.u8 (b + 6)) 0 3 && within (s.u8 (b + 7)) 0 1 && within (s.u16 (b + 8)) 50 660 &&
    within (s.u16 (b + 10)) 1 50 && within (s.u16 (b + 12)) 50 480 && within (s.bandCount r) 0 12 &&
    (storedBands s r).all bandInRange && within (s.u16 (b + 112)) 0 20000 && within (s.u16 (b + 114)) 0 20000 &&
    within (s.u16 (b + 116)) 0 4000 && within (s.u16 (b + 118)) 0 4000 && within (s.u16 (b + 120)) 0 300 &&
    within (s.u16 (b + 122)) 0 20000 && within (s.u16 (b + 124)) 0 20000 &&
    decide (s.u16 (b + 112) ≤ s.u16 (b + 114)) && decide (s.u16 (b + 116) ≤ s.u16 (b + 118)) &&
    decide (s.u16 (b + 122) ≤ s.u16 (b + 124))

/-- Bands run forwards and do not overlap; adjacent bands may touch (R22). -/
def bandsOrdered : Nat → List Band → Bool
  | _, [] => true
  | from0, b :: rest => decide (from0 ≤ b.first) && decide (b.first < b.last) && bandsOrdered b.last rest

/-- The CHIP_WAVE flag. -/
def State.chipWave (s : State) (r : RecipeNo) : Bool := (s.byteAt (recipeBase r + 7)).getLsbD 0

/-- The line profile a recipe requires. -/
def State.requiredProfile (s : State) (r : RecipeNo) : Byte := s.byteAt (recipeBase r + 6)

/-- A recipe's nominal length. -/
def State.nominalLength (s : State) (r : RecipeNo) : Nat := s.u16 (recipeBase r + 8)

/-- The validation of a recipe (R22): the reason of the first check that fails, and the state after the reads of that
validation have been offered to PARITY_ADDR. -/
def validateRecipe (r : RecipeNo) (s : State) : RecipeReason × State :=
  match firstBad s (recipeReadAddrs s r) with
  | some a => (.parity, offerParity a s)
  | none =>
    if !recipeInRange s r then (.range, s)
    else if !bandsOrdered 0 (storedBands s r) then (.bandOrder, s)
    else if !(storedBands s r).all (fun b => decide (b.last ≤ s.nominalLength r)) then (.bandLength, s)
    else
      let n := (s.requiredProfile r).toNat
      let f := profileFailure s n
      let s1 := offerProfileReads f s
      match f with
      | some { badByte := some _, .. } => (.parity, s1)
      | some { badByte := none, .. } => (.profile, s1)
      | none =>
        if s.chipWave r && s.u8 (profileBase n + 48) == 0 then (.profile, s1) else (.none, s1)

end Sys2Proof.Machine
end

