-- ==== Sys2Proof/Machine/Flux.lean ====
section
/-! DEFINITION. The flux controller's work (chapter 7): valves and loads, the current flux board, permission and its loss,
dose and no-flow, and the purge.  Also the low claims: claims on alarms below class SAFE, with the loss of permission they
may bring. -/

namespace Sys2Proof.Machine

/-! ### Valves -/

/-- Close the valves at once: the active load none, the buffered load empty (R118). -/
def closeValves (s : State) : State :=
  { s with fxc.active := none, fxc.buffered := none, fxc.valves := 0,
           fxc.closedPart := s.fxc.closedPart || s.fxc.valves != 0 }

/-! ### Results of a FLOW claim -/

/-- The FLOW result of the work that ends: the one handed back at a wrap, or the count at the close (R103). -/
def State.flowOf (s : State) (stored : Option FlowResult) : Option FlowResult :=
  match stored with
  | some r => some r
  | none => s.flowCount.map .ok

/-- FXC's FLOW claim is closed where it has not ended (R103). -/
def takeFlow (stored : Option FlowResult) (s : State) : State :=
  match stored with
  | some _ => s
  | none => closeFlow s

/-- The flow k-factor in force. -/
def State.kFactor (s : State) : Nat := (s.amc.profile.map (·.kFactor)).getD 0

/-- The dose of a FLOW result, where its status is OK (R124). -/
def State.dose (s : State) (r : Option FlowResult) : Option Nat :=
  match r with
  | some (.ok n) => some (doseOf n s.kFactor)
  | some .overrange | none => none

/-- Write the valve-open time and then the dose into the docket (R124). -/
def writeDose (d : DocketNo) (time : Nat) (dose : Option Nat) (s : State) : State :=
  putField d 54 (optHalf (dose.map fun v => BitVec.ofNat 16 (min v 65534)))
    (putFieldWord d 56 (BitVec.ofNat 32 time) s)

/-- The no-flow judgement (R125): an OK result of 0 with 1,000 ms or more of valve-open time. -/
def judgeNoFlow (d : Option DocketNo) (time : Nat) (r : Option FlowResult) (s : State) : State :=
  if r = some (.ok 0) ∧ 1000 ≤ time then
    claimPulse .fluxNoFlow (detailHeld time) d
      (match d with
       | some n => addReason n .fluxNoFlow s
       | none => s)
  else s

/-- The dose lies in the recipe's window, both limits included. -/
def State.doseInWindow (s : State) (d : DocketNo) (dose : Option Nat) : Bool :=
  let b := recipeBase (s.recipeOf d)
  dose.any fun v => within v (s.u16 (b + 112)) (s.u16 (b + 114))

/-- The dose window check (R124). -/
def checkDose (d : DocketNo) (dose : Option Nat) (s : State) : State :=
  let bad := s.anyBad (span (recipeBase (s.recipeOf d) + 112) 4)
  let s := reportBad (span (recipeBase (s.recipeOf d) + 112) 4) d s
  if bad || s.doseInWindow d dose then s
  else claimPulse .fluxDoseOut (detailHeld (dose.getD 32767)) (some d) (addReason d .fluxDose s)

/-! ### Loss of permission -/

/-- The current flux board's fluxing ends when permission is lost (R122). -/
def interruptBoard (s : State) : State :=
  match s.fxc.board with
  | none => s
  | some b =>
    if b.interrupted || s.boardPermission then s
    else
      let r := s.flowOf b.flow
      let s := takeFlow b.flow (closeValves s)
      let s := writeDose b.docket b.valveTime (s.dose r) s
      let s := judgeNoFlow (some b.docket) b.valveTime r s
      let s := addReason b.docket .fluxInterrupted s
      { s with fxc.board := some { b with interrupted := true, flow := none } }

/-- The condition of FLUX_PRESSURE_LOW (R127). -/
def State.pressureLow (s : State) : Bool := !s.fxc.pressureOk && (s.amc.mode.runs || s.spraying)

/-- A purge that ends in WAIT (R130). -/
def endPurgeWait (p : Purge) (result : RequestResult) (s : State) : State :=
  endCell p.cell result (putReply p.cell 6 1 { s with fxc.purge := none })

/-- The replies of a purge that ends in SPRAY (section 7.4). -/
def purgeReplies (p : Purge) (r : Option FlowResult) (ms : Nat) (s : State) : State :=
  let count : Option Word :=
    match r with
    | some (.ok n) => some (BitVec.ofNat 32 n)
    | some .overrange | none => none
  let s := putReplyWord p.cell 0 (optWord count) s
  let s := putReplyWord p.cell 2 (optWord ((s.dose r).map (BitVec.ofNat 32))) s
  let s := putReplyWord p.cell 4 (BitVec.ofNat 32 p.valveTime) s
  let s := putReply p.cell 6 2 s
  putReply p.cell 7 (BitVec.ofNat 16 ms) s

/-- A purge that ends in SPRAY, after `ms` of spraying (R129, R130).  The end of the phase can only make
FLUX_PRESSURE_LOW's condition disappear (R127). -/
def endPurgeSpray (p : Purge) (result : RequestResult) (ms : Nat) (s : State) : State :=
  let r := s.flowOf p.flow
  let s := takeFlow p.flow (closeValves s)
  let s := purgeReplies p r ms { s with fxc.purge := none }
  let s := endCell p.cell result (judgeNoFlow none p.valveTime r s)
  if s.pressureLow then s else claimClear .fluxPressureLow s

/-- Milliseconds of spraying so far: from the loading of the purge (section 7.4). -/
def State.sprayed (s : State) (loadedAt : Option Nat) : Nat :=
  match loadedAt with
  | some t => s.since t
  | none => 0

/-- The purge in flight on a loss of permission or of flux approach clear (R130). -/
def purgeLoss (s : State) : State :=
  match s.fxc.purge with
  | none => s
  | some p =>
    match p.phase with
    | .wait => if s.amc.mode = .safe then endPurgeWait p .aborted s else s
    | .spray t => if s.sprayPermission && s.fluxApproachClear then s else endPurgeSpray p .aborted (s.sprayed t) s

/-- FXC takes a change of mode, condition, extraction state or flux approach clear. -/
def fluxLoss (s : State) : State := purgeLoss (interruptBoard s)

/-! ### Low claims -/

/-- A raise claim on an alarm below class SAFE. -/
def raiseLow (a : Alarm) (detail : Half) (docket : Option DocketNo) (s : State) : State :=
  fluxLoss (claimRaise a detail docket s)

/-- A pulse claim on an alarm below class SAFE. -/
def pulseLow (a : Alarm) (detail : Half) (docket : Option DocketNo) (s : State) : State :=
  fluxLoss (claimPulse a detail docket s)

/-- A block judges a condition: the raise claim where it holds, the clear claim where it does not.  A raise that finds
the condition present, and a clear that finds it absent, are ignored (R81). -/
def judgeLow (a : Alarm) (holds : Bool) (detail : Half) (s : State) : State :=
  if holds then raiseLow a detail none s else claimClear a s

/-- FLUX_PRESSURE_LOW is judged (R127). -/
def judgePressure (s : State) : State := judgeLow .fluxPressureLow s.pressureLow 0 s

/-- FLUX_TANK_LOW is judged (R128). -/
def judgeTank (s : State) : State := judgeLow .fluxTankLow (!s.fxc.tankHigh && s.amc.mode != .config) 0 s

/-! ### A board at the flux bar -/

/-- P_flux of the description in force. -/
def State.pFlux (s : State) : Nat := (s.amc.inForce.map (·.pFlux)).getD 0

/-- The band under the bar at an offset (R121). -/
def bandAt (bands : List Band) (off : Nat) : Option Nat :=
  bands.findIdx? fun b => decide (b.first ≤ off) && decide (off < b.last)

/-- Put a load into the buffer; one already there is replaced. -/
def bufferLoad (l : Load) (s : State) : State := { s with fxc.buffered := some l }

/-- Band evaluation of the current flux board (R121). -/
def evaluateBands (s : State) : State :=
  match s.fxc.board with
  | none => s
  | some b =>
    if b.interrupted then s
    else
      match bandAt b.bands ((s.cvt.travel - b.board).toNat - s.pFlux) with
      | none => { closeValves s with fxc.board := some { b with found := none } }
      | some i =>
        if b.found = some i then s
        else
          { bufferLoad ((b.bands.getD i { first := 0, last := 0, load := { valves := 0, duty := 0 } }).load) s with
            fxc.board := some { b with found := some i } }

/-- The addresses FXC reads of a recipe at FLUX_IN: the band count, then the band entries it counts (R120). -/
def fluxReadAddrs (s : State) (r : RecipeNo) : List Nat := (recipeBase r + 14) :: bandsAddrs r (min 12 (s.bandCount r))

/-- FLUX_IN past the parity checks (R120, steps 4 and 5). -/
def fluxBegin (board : Word) (d : DocketNo) (s : State) : State :=
  let r := s.recipeOf d
  if s.bandCount r = 0 then s
  else if !s.boardPermission || s.spraying then addReason d .fluxInterrupted s
  else
    evaluateBands (placeFlow
      { s with fxc.board := some { board := board, docket := d, bands := (storedBands s r).take 12, found := none,
                                   valveTime := 0, interrupted := false, flow := none } })

/-- FLUX_IN (R120). -/
def fluxIn (board : Word) (docket : Option DocketNo) (s : State) : State :=
  match docket with
  | none => s
  | some d =>
    if !s.onLine d then s
    else
      let bad := s.anyBad [docketBase d + 3]
      let s := reportBad [docketBase d + 3] d s
      if bad then s
      else if (s.reasons d &&& Reason.entryHeld.bit) != 0 || (s.byteAt (docketBase d + 3)).getLsbD 0 then
        putNote d 0x02 s
      else
        let bad := s.anyBad (fluxReadAddrs s (s.recipeOf d))
        let s := reportBad (fluxReadAddrs s (s.recipeOf d)) d s
        if bad then s else fluxBegin board d s

/-- FXC takes a discard notice (R126). -/
def fluxDiscard (s : State) : State :=
  match s.fxc.board with
  | none => s
  | some _ => { withdraw .flow .fxc (closeValves s) with fxc.board := none }

/-- FXC takes a FLOW result that ended by wrap: it is kept until the work ends (R103). -/
def flowWrapped (s : State) : State :=
  match s.fxc.board, s.fxc.purge with
  | some b, _ => { s with fxc.board := some { b with flow := some .overrange } }
  | none, some p => { s with fxc.purge := some { p with flow := some .overrange } }
  | none, none => s

/-! ### The purge -/

/-- The purge can pass from WAIT to SPRAY (R129). -/
def State.sprayReady (s : State) : Bool :=
  s.purgePhase == 1 && s.fluxApproachClear && s.fxc.board.isNone && s.sprayPermission

/-- The purge enters SPRAY (R129). -/
def sprayStart (s : State) : State :=
  match s.fxc.purge with
  | none => s
  | some p =>
    if s.sprayReady then
      let s := bufferLoad p.load s
      let s := { s with fxc.purge := some { p with phase := .spray none, valveTime := 0, flow := none } }
      judgePressure (placeFlow s)
    else s

/-- FLUX_OUT (R123), past its board's own business. -/
def fluxOutOf (b : FluxBoard) (s : State) : State :=
  if b.interrupted then { s with fxc.board := none }
  else
    let r := s.flowOf b.flow
    let s := takeFlow b.flow (closeValves s)
    let s := { s with fxc.board := none }
    let s := writeDose b.docket b.valveTime (s.dose r) s
    let s := checkDose b.docket (s.dose r) s
    fluxLoss (judgeNoFlow (some b.docket) b.valveTime r s)

/-- FLUX_OUT (R123); a purge that waited for the board to leave begins to spray in the same event (R129). -/
def fluxOut (board : Word) (s : State) : State :=
  match s.fxc.board with
  | none => s
  | some b => if b.board ≠ board then s else sprayStart (fluxOutOf b s)

/-- The spray timer has counted the spray duration (R129). -/
def State.sprayDue (s : State) : Bool :=
  match s.fxc.purge with
  | some { phase := .spray (some t), duration := d, .. } => s.hasRun t d
  | some { phase := .spray none, .. } | some { phase := .wait, .. } | none => false

/-- The spray timer expires (R129). -/
def sprayExpiry (s : State) : State :=
  match s.fxc.purge with
  | none => s
  | some p => if s.sprayDue then endPurgeSpray p .ok p.duration s else s

/-! ### The valve period timer (R117) -/

/-- The load a period starts with: the buffered load if there is one, else the active one. -/
def State.nextLoad (s : State) : Option Load :=
  match s.fxc.buffered with
  | some l => some l
  | none => s.fxc.active

/-- The purge's load becomes active at this tick. -/
def Purge.loaded (p : Purge) (now : Nat) : Purge :=
  match p.phase with
  | .spray none => { p with phase := .spray (some now) }
  | .spray (some _) | .wait => p

/-- A period starts now with the valve period in force. -/
def beginPeriod (s : State) : State :=
  let len := (s.amc.profile.map (·.valvePeriod)).getD 0
  let l := s.nextLoad
  let openTime := (l.map (·.duty)).getD 0 * len / 1000
  { s with fxc.active := l, fxc.buffered := none,
           fxc.period := some { start := s.amc.ticks, len := len, openTime := openTime },
           fxc.valves := if openTime = 0 then 0 else (l.map (·.valves)).getD 0,
           fxc.purge := if s.fxc.buffered.isSome then s.fxc.purge.map (·.loaded s.amc.ticks) else s.fxc.purge }

/-- The current period has ended. -/
def State.periodDue (s : State) : Bool :=
  match s.fxc.period with
  | some p => s.hasRun p.start p.len
  | none => false

/-- VALVE_PERIOD_START. -/
def periodStart (s : State) : State := if s.periodDue then beginPeriod s else s

/-- The open time of the current period has passed with a valve still open. -/
def State.openTimeDue (s : State) : Bool :=
  match s.fxc.period with
  | some p => decide (p.openTime < p.len) && s.hasRun p.start p.openTime && s.fxc.valves != 0
  | none => false

/-- VALVE_OPEN_TIME_END. -/
def openTimeEnd (s : State) : State := if s.openTimeDue then { s with fxc.valves := 0 } else s

end Sys2Proof.Machine
end

