-- ==== Sys2Proof/Machine/Drive.lean ====
section
/-! DEFINITION. The conveyor drive (section 4.2) and the downstream timer (R75). -/

namespace Sys2Proof.Machine

/-- The drive state when the target changes (R61, first two rows). -/
def DriveState.retarget (d : DriveState) (reference target : Nat) : DriveState :=
  if reference = 0 then
    match d with
    | .stopped | .stalled => if target = 0 then d else .ramping
    | .ramping | .atSpeed | .offSpeed => d
  else
    match d with
    | .ramping | .atSpeed | .offSpeed => .ramping
    | .stopped | .stalled => d

/-- CVT takes a change of the run demand or of the conveyor speed: the target follows (R60, R61). -/
def followTarget (s : State) : State :=
  let t := s.driveTarget
  if t = s.cvt.target then s
  else { s with cvt.target := t, cvt.drive := s.cvt.drive.retarget s.cvt.reference t }

/-- The conveyor-stop signal becomes present: reference and command 0 at once, the stall timer stopped, STOPPED unless
STALLED, and the clear claim of CONVEYOR_STALL if it was raised (R62). -/
def stopDrive (s : State) : State :=
  claimClear .conveyorStall
    { s with cvt.reference := 0, cvt.target := 0, cvt.stall := none,
             cvt.drive := if s.cvt.drive = .stalled then .stalled else .stopped }

/-- The conveyor-stop signal becomes absent: the target follows the demand, and a STALLED drive with target 0 becomes
STOPPED (R62). -/
def releaseDrive (s : State) : State :=
  let s := followTarget s
  if s.cvt.target = 0 ∧ s.cvt.drive = .stalled then { s with cvt.drive := .stopped } else s

/-- CVT takes the conveyor-stop signal as it stands, knowing how it stood before (R62, R86). -/
def followStop (before : Bool) (s : State) : State :=
  if s.conveyorStop then (if before then s else stopDrive s) else if before then releaseDrive s else s

/-- A reference moved by one step towards its target (R60, R153). -/
def rampTowards (step reference target : Nat) : Nat :=
  if reference < target then min (reference + step) target else max (reference - step) target

/-- DRIVE_RAMP_STEP is due. -/
def State.rampDue (s : State) : Bool := s.hpx.phase != .initialising && decide (s.cvt.nextRamp ≤ s.amc.ticks)

/-- DRIVE_RAMP_STEP (R60, R61).  A drive RAMPING with reference and target 0 becomes STOPPED (assumption log, entry 27).
The stall timer restarts when the reference leaves 0 and runs only while it is above 0
(R62). -/
def driveRamp (s : State) : State :=
  if s.rampDue then
    let r := rampTowards 100 s.cvt.reference s.cvt.target
    { s with cvt.nextRamp := s.cvt.nextRamp + 100, cvt.reference := r,
             cvt.stall := if r = 0 then none else if s.cvt.reference = 0 then some s.amc.ticks else s.cvt.stall,
             cvt.drive := if r = 0 ∧ s.cvt.drive = .ramping then .stopped else s.cvt.drive }
  else s

/-- A measured speed is within ±3 % of the target (R61). -/
def speedInBand (measured target : Nat) : Bool :=
  decide ((max measured target - min measured target) * 100 ≤ 3 * target)

/-- The drive state after a measurement with the reference at a target above 0 (R61). -/
def DriveState.measured (d : DriveState) (inBand : Bool) : DriveState :=
  match d with
  | .ramping => if inBand then .atSpeed else .ramping
  | .atSpeed | .offSpeed => if inBand then .atSpeed else .offSpeed
  | .stopped => .stopped
  | .stalled => .stalled

/-- CONVEYOR_SPEED_MEASUREMENT is due. -/
def State.speedDue (s : State) : Bool := s.hpx.phase != .initialising && decide (s.cvt.nextSpeed ≤ s.amc.ticks)

/-- CONVEYOR_SPEED_MEASUREMENT (R59, R61). -/
def measureSpeed (s : State) : State :=
  if s.speedDue then
    let v := min 65535 ((s.cvt.thisInterval + s.cvt.prevInterval) * 60)
    let judged := s.cvt.reference = s.cvt.target ∧ 0 < s.cvt.target
    { s with cvt.nextSpeed := s.cvt.nextSpeed + 500, cvt.measuredSpeed := v, cvt.prevInterval := s.cvt.thisInterval,
             cvt.thisInterval := 0,
             cvt.drive := if judged then s.cvt.drive.measured (speedInBand v s.cvt.target) else s.cvt.drive }
  else s

/-- CONVEYOR_STALL is due: the stall timer has reached the stall time with the reference above 0 (R62). -/
def State.stallDue (s : State) : Bool :=
  decide (0 < s.cvt.reference) && s.timerReached s.cvt.stall ((s.amc.inForce.map (·.stallTime)).getD 0)

/-- The downstream timer is started or stopped by the mode and the level of DN_ACCEPT; DOWNSTREAM_NOT_READY's condition
disappears when the timer stops (R75).  A timer that runs goes on at a change between PRODUCTION and DRAINING (assumption
log, entry 27). -/
def followDownstream (s : State) : State :=
  if s.amc.mode.runs ∧ s.cvt.dnAccept = false then
    match s.cvt.downstream with
    | some _ => s
    | none => { s with cvt.downstream := some s.amc.ticks }
  else claimClear .downstreamNotReady { s with cvt.downstream := none }

/-- DOWNSTREAM_TIMER_EXPIRY is due: the timer has passed 10,000 ms and the condition is not present yet (R75). -/
def State.downstreamDue (s : State) : Bool :=
  s.timerReached s.cvt.downstream 10001 && !s.present .downstreamNotReady

/-- DOWNSTREAM_TIMER_EXPIRY (R75). -/
def downstreamExpiry (s : State) : State :=
  if s.downstreamDue then raiseLow .downstreamNotReady (BitVec.ofNat 16 s.cvt.map.length) none s else s

end Sys2Proof.Machine
end

