-- ==== Sys2Proof/Machine/Preheat.lean ====
section
/-! DEFINITION. The preheat controller (chapter 8): zone states, heaters, the control law, occupancy and the pyrometer.
ZONE_OVERTEMP, of class SAFE, is claimed in Frames.lean. -/

namespace Sys2Proof.Machine

/-! ### Zone records -/

/-- A zone's settings, all zero before the first START. -/
def State.zoneSettings (s : State) (z : ZoneNo) : ZoneSettings :=
  match s.amc.profile with
  | some p => p.zones[z]
  | none => { setpoint := 0, band := 0, hold := 0, maxDuty := 0 }

/-- A zone's setpoint; 0 disables the zone. -/
def State.setpoint (s : State) (z : ZoneNo) : Nat := (s.zoneSettings z).setpoint

/-- A zone's record. -/
def State.zone (s : State) (z : ZoneNo) : Zone := s.phc.zones[z]

/-- Replace a zone's record. -/
def putZone (z : ZoneNo) (r : Zone) (s : State) : State := { s with phc.zones := s.phc.zones.set z r }

/-- A zone's heater forced off at once (R133). -/
def Zone.forcedOff (r : Zone) : Zone := { r with activeDuty := 0, bufferedDuty := none, heaterOn := false }

/-- A zone's record on entering a state: OFF and FAULT force the heater off and stop the settle timer, SETTLING starts
with the timer stopped, READY stops it (R134, R135, R137). -/
def Zone.entered (r : Zone) (st : ZoneState) : Zone :=
  match st with
  | .off | .fault => { r.forcedOff with state := st, settle := none }
  | .settling | .ready => { r with state := st, settle := none }
  | .deviation => { r with state := st }

/-- The states that mark the boards in the zone (R141). -/
def ZoneState.marks : ZoneState → Bool
  | .settling | .deviation | .fault => true
  | .off | .ready => false

/-- Mark a board's docket with ZONE_DEVIATION. -/
def markZone (d : Option DocketNo) (s : State) : State :=
  match d with
  | some n => addReason n .zoneDeviation s
  | none => s

/-- A zone enters a state; at a change into a marking state of an enabled zone every member is marked (R141). -/
def enterZone (z : ZoneNo) (st : ZoneState) (s : State) : State :=
  let r := s.zone z
  let s1 := putZone z (r.entered st) s
  if r.state ≠ st ∧ st.marks = true ∧ 0 < s.setpoint z then forEach r.occupants (fun o => markZone o.docket) s1 else s1

/-! ### The conditions of ZONE_DEVIATION and ZONE_SENSOR -/

/-- The number of a zone in the manual, 1 to 6. -/
def zoneNumber (z : ZoneNo) : Nat := z.val + 1

/-- The lowest enabled zone that is SETTLING or DEVIATION (R139). -/
def State.deviatingZone (s : State) : Option ZoneNo :=
  allZones.find? fun z => decide (0 < s.setpoint z) && ((s.zone z).state == .settling || (s.zone z).state == .deviation)

/-- The lowest enabled zone in FAULT (R137). -/
def State.faultedZone (s : State) : Option ZoneNo :=
  allZones.find? fun z => decide (0 < s.setpoint z) && (s.zone z).state == .fault

/-- ZONE_DEVIATION is judged (R139). -/
def judgeDeviation (s : State) : State :=
  judgeLow .zoneDeviation (s.amc.mode == .production && !s.inSettle && s.deviatingZone.isSome)
    (BitVec.ofNat 16 ((s.deviatingZone.map zoneNumber).getD 0)) s

/-- ZONE_SENSOR is judged (R137). -/
def judgeZoneSensor (s : State) : State :=
  judgeLow .zoneSensor s.faultedZone.isSome
    (BitVec.ofNat 16 ((s.faultedZone.map fun z => 10 * zoneNumber z + (s.zone z).faultCode).getD 0)) s

/-- Both zone conditions are judged. -/
def judgeZones (s : State) : State := judgeZoneSensor (judgeDeviation s)

/-! ### Mode and setpoint events (R134) -/

/-- A zone's state on entering STANDBY, PRODUCTION or DRAINING from CONFIG or SAFE. -/
def State.zoneStartState (s : State) (z : ZoneNo) : ZoneState :=
  if (s.zone z).sensorFaulted then .fault else if s.setpoint z = 0 then .off else .settling

/-- The zones on a mode event. -/
def zonesOnMode (old : Mode) (s : State) : State :=
  if !s.amc.mode.works then forEach allZones (fun z => enterZone z .off) s
  else if !old.works then forEach allZones (fun z t => enterZone z (t.zoneStartState z) t) s
  else s

/-- A zone at the SWITCH of a changeover, with the new settings in force. -/
def zoneOnSwitch (z : ZoneNo) (s : State) : State :=
  if (s.zone z).state = .fault then s
  else enterZone z (if s.setpoint z = 0 then .off else .settling) s

/-- The zones at a SWITCH. -/
def zonesOnSwitch (s : State) : State := forEach allZones zoneOnSwitch s

/-! ### Temperature judgement and control (R135, R136) -/

/-- A temperature is within a band around a setpoint, both ends included. -/
def inBand (t : Int) (setpoint band : Nat) : Bool :=
  decide (t - setpoint ≤ band) && decide ((setpoint : Int) - t ≤ band)

/-- The duty of the control law: hold plus the proportional term, truncated towards zero, plus the boost, held within 0
and a maximum (R136, R150). -/
def controlDuty (hold : Nat) (setpoint band : Nat) (t : Int) (boost maxDuty : Nat) : Nat :=
  min (((hold : Int) + Int.tdiv (((setpoint : Int) - t) * 1000) band + boost).toNat) maxDuty

/-- The judgement of a good frame against the band (R135). -/
def judgeZoneBand (z : ZoneNo) (t : Int) (s : State) : State :=
  let c := s.zoneSettings z
  let r := s.zone z
  match r.state, inBand t c.setpoint c.band with
  | .settling, true => if r.settle.isNone then putZone z { r with settle := some s.amc.ticks } s else s
  | .settling, false => putZone z { r with settle := none } s
  | .ready, false => enterZone z .deviation s
  | .deviation, true => enterZone z .ready s
  | _, _ => s

/-- The boost of a zone: the largest load boost in its occupancy set (R136). -/
def Zone.boost (r : Zone) : Nat := (r.occupants.map (·.boost)).foldl max 0

/-- The zone is controlled: SETTLING, READY or DEVIATION. -/
def ZoneState.controlled : ZoneState → Bool
  | .settling | .ready | .deviation => true
  | .off | .fault => false

/-- The control law on a good frame (R136). -/
def controlZone (z : ZoneNo) (t : Int) (s : State) : State :=
  let c := s.zoneSettings z
  let r := s.zone z
  if r.state.controlled && !r.overtemp then
    putZone z { r with bufferedDuty := some (controlDuty c.hold c.setpoint c.band t r.boost c.maxDuty) } s
  else s

/-- The overtemperature of a zone at a temperature (R138). -/
def State.zoneTooHot (s : State) (z : ZoneNo) (t : Int) : Bool :=
  decide (4000 < t) ||
    (decide (0 < s.setpoint z) && s.amc.inForce.any fun d => decide (((s.setpoint z + d.margin : Nat) : Int) < t))

/-- Some zone has overtemperature. -/
def State.anyTooHot (s : State) : Bool := allZones.any fun z => (s.zone z).overtemp

/-- The overtemperature judgement of a good frame: its appearance forces the heater off (R138). -/
def judgeZoneHeat (z : ZoneNo) (t : Int) (s : State) : State :=
  let r := s.zone z
  let hot := s.zoneTooHot z t
  if hot && !r.overtemp then putZone z { r.forcedOff with overtemp := true } s
  else putZone z { r with overtemp := hot } s

/-- PHC takes a fault notice for a zone's channel (R137). -/
def zoneFaultNotice (z : ZoneNo) (detail : Nat) (s : State) : State :=
  let s := putZone z { s.zone z with sensorFaulted := true, faultCode := detail } s
  if s.amc.mode.works then enterZone z .fault s else s

/-- PHC takes a restore notice for a zone's channel (R137). -/
def zoneRestoreNotice (z : ZoneNo) (s : State) : State :=
  let s := putZone z { s.zone z with sensorFaulted := false } s
  if (s.zone z).state = .fault then enterZone z (if s.setpoint z = 0 then .off else .settling) s else s

/-! ### Settle expiry -/

/-- ZONE_SETTLE_EXPIRY is due. -/
def State.zoneSettleDue (s : State) (z : ZoneNo) : Bool :=
  (s.zone z).state == .settling &&
    s.timerReached (s.zone z).settle (1000 * (s.amc.profile.map (·.zoneSettle)).getD 0)

/-- ZONE_SETTLE_EXPIRY (R135). -/
def zoneSettleExpiry (z : ZoneNo) (s : State) : State :=
  if s.zoneSettleDue z then judgeZones (enterZone z .ready s) else s

/-! ### Heater periods (R133) -/

/-- A zone at a heater period start. -/
def Zone.periodStart (r : Zone) : Zone :=
  let d := r.bufferedDuty.getD r.activeDuty
  { r with activeDuty := d, bufferedDuty := none, heaterOn := decide (0 < d) }

/-- ZONE_HEATER_PERIOD_START is due. -/
def State.zonePeriodDue (s : State) : Bool := s.hpx.phase != .initialising && decide (s.phc.nextPeriod ≤ s.amc.ticks)

/-- ZONE_HEATER_PERIOD_START. -/
def zonePeriodStart (s : State) : State :=
  if s.zonePeriodDue then
    { s with phc.zones := s.phc.zones.map Zone.periodStart, phc.periodStart := s.amc.ticks,
             phc.nextPeriod := s.phc.nextPeriod + 2000 }
  else s

/-- ZONE_HEATER_ON_TIME_END is due: the on-time of 2 × active duty ms has passed, and it is shorter than the period. -/
def State.zoneOnTimeDue (s : State) (z : ZoneNo) : Bool :=
  let r := s.zone z
  r.heaterOn && decide (r.activeDuty < 1000) && s.hasRun s.phc.periodStart (2 * r.activeDuty)

/-- ZONE_HEATER_ON_TIME_END. -/
def zoneOnTimeEnd (z : ZoneNo) (s : State) : State :=
  if s.zoneOnTimeDue z then putZone z { s.zone z with heaterOn := false } s else s

/-! ### Occupancy (R140, R141) -/

/-- The docket of a member: none where the board has none ON_LINE. -/
def State.memberDocket (s : State) (docket : Option DocketNo) : Option DocketNo := docket.filter s.onLine

/-- The addresses of a recipe's load boost. -/
def boostAddrs (s : State) (d : DocketNo) : List Nat := span (recipeBase (s.recipeOf d) + 120) 2

/-- The boost of a board entering a zone: its recipe's load boost, 0 for a board with no docket ON_LINE or with a bad
byte there. -/
def State.boostOf (s : State) (d : Option DocketNo) : Nat :=
  match d with
  | none => 0
  | some d => if s.anyBad (boostAddrs s d) then 0 else s.u16 (recipeBase (s.recipeOf d) + 120)

/-- The parity checks of the boost's read. -/
def reportBoost (d : Option DocketNo) (s : State) : State :=
  match d with
  | none => s
  | some d => reportBad (boostAddrs s d) d s

/-- ZONEk_IN. -/
def zoneIn (z : ZoneNo) (board : Word) (docket : Option DocketNo) (s : State) : State :=
  let d := s.memberDocket docket
  let boost := s.boostOf d
  let s := reportBoost d s
  let r := s.zone z
  let others := r.occupants.filter fun o => o.board != board
  let s := putZone z { r with occupants := others ++ [{ board := board, docket := d, boost := boost }] } s
  if r.state.marks && decide (0 < s.setpoint z) then markZone d s else s

/-- ZONEk_OUT. -/
def zoneOut (z : ZoneNo) (board : Word) (s : State) : State :=
  let r := s.zone z
  putZone z { r with occupants := r.occupants.filter fun o => o.board != board } s

/-- Every occupancy set is emptied (R140). -/
def emptyZones (s : State) : State := { s with phc.zones := s.phc.zones.map fun r => { r with occupants := [] } }

/-! ### The pyrometer (R142 to R144) -/

/-- PHC places its PYRO claim. -/
def placePyro (s : State) : State := placeBlock .pyro .span .phc s

/-- PYRO_IN. -/
def pyroIn (board : Word) (docket : Option DocketNo) (s : State) : State :=
  match docket with
  | none => s
  | some d =>
    if s.onLine d then
      placePyro { s with phc.pyro := some { board := board, docket := d, maximum := none, since := s.lineClock,
                                            nextClaim := s.amc.ticks + 50 } }
    else s

/-- A result of a PYRO claim reaches the passage (R142). -/
def pyroResult (status : ResultStatus) (value : Nat) (s : State) : State :=
  match s.phc.pyro with
  | none => s
  | some p =>
    if status = .ok ∧ value ≤ 1000 then
      { s with phc.pyro := some { p with maximum := some (max (4 * value) (p.maximum.getD 0)) } }
    else s

/-- The temperature of a passage lies in the recipe's board-top window. -/
def State.topInWindow (s : State) (d : DocketNo) (t : Option Nat) : Bool :=
  let b := recipeBase (s.recipeOf d)
  t.any fun v => within v (s.u16 (b + 116)) (s.u16 (b + 118))

/-- PYRO_OUT (R143). -/
def pyroOut (board : Word) (s : State) : State :=
  match s.phc.pyro with
  | none => s
  | some p =>
    if p.board ≠ board then s
    else
      let s := { withdraw .pyro .phc s with phc.pyro := none }
      let s := putField p.docket 60 (optHalf (p.maximum.map (BitVec.ofNat 16))) s
      let bad := s.anyBad (span (recipeBase (s.recipeOf p.docket) + 116) 4)
      let s := reportBad (span (recipeBase (s.recipeOf p.docket) + 116) 4) p.docket s
      if bad || s.topInWindow p.docket p.maximum then s
      else
        claimPulse .boardTopOut (BitVec.ofNat 16 (p.maximum.getD 32767)) (some p.docket)
          (addReason p.docket .topTemp s)

/-- PHC takes a discard notice (R144). -/
def preheatDiscard (s : State) : State :=
  let s :=
    match s.phc.pyro with
    | some _ => { withdraw .pyro .phc s with phc.pyro := none }
    | none => s
  emptyZones s

/-- PYRO_CLAIM_PLACEMENT is due. -/
def State.pyroDue (s : State) : Bool :=
  match s.phc.pyro with
  | some p => decide (p.nextClaim ≤ s.amc.ticks)
  | none => false

/-- PYRO_CLAIM_PLACEMENT (R142). -/
def pyroPlacement (s : State) : State :=
  match s.phc.pyro with
  | none => s
  | some p =>
    if s.pyroDue then placePyro { s with phc.pyro := some { p with nextClaim := p.nextClaim + 50 } } else s

end Sys2Proof.Machine
end

