-- ==== Sys2Proof/Machine/Pot.lean ====
section
/-! DEFINITION. The pot controller (chapter 9): the pot, the wave pumps, the passages, level, feeder, and the two pot
requests.  POT_SENSOR and POT_OVERTEMP, of class SAFE, are claimed in Frames.lean. -/

namespace Sys2Proof.Machine

/-! ### Records -/

/-- A pump's record. -/
def State.pump (s : State) (p : PumpId) : Pump :=
  match p with
  | .chip => s.ptc.chip
  | .main => s.ptc.main

/-- Replace a pump's record. -/
def putPump (p : PumpId) (r : Pump) (s : State) : State :=
  match p with
  | .chip => { s with ptc.chip := r }
  | .main => { s with ptc.main := r }

/-- A pump's number in an alarm's detail (R155, R156). -/
def pumpNumber : PumpId → Half
  | .chip => 1
  | .main => 2

/-- A pump's tachometer. -/
def pumpSource : PumpId → Source
  | .chip => .tachChip
  | .main => .tachMain

/-- A pump's passage list (section 9.3). -/
def State.passages (s : State) (p : PumpId) : List Passage :=
  match p with
  | .chip => s.ptc.chipList
  | .main => s.ptc.mainList

/-- Replace a pump's passage list. -/
def putPassages (p : PumpId) (l : List Passage) (s : State) : State :=
  match p with
  | .chip => { s with ptc.chipList := l }
  | .main => { s with ptc.mainList := l }

/-- A LEVEL_CALIBRATE is TAKEN. -/
def State.calibrating (s : State) : Bool := s.ptc.calibrate.isSome

/-- Replace the pot record. -/
def putPot (r : Pot) (s : State) : State := { s with ptc.pot := r }

/-! ### LEVEL_CALIBRATE's phases (R163) -/

/-- STOPPING passes to QUIET when both pumps are STOPPED. -/
def calibrateStopped (s : State) : State :=
  match s.ptc.calibrate with
  | some { cell := c, phase := .stopping } =>
    if s.ptc.chip.state = .stopped ∧ s.ptc.main.state = .stopped then
      { s with ptc.calibrate := some { cell := c, phase := .quiet s.amc.ticks } }
    else s
  | some { phase := .quiet _, .. } | some { phase := .sampling _ _ _, .. } | none => s

/-! ### Pump states (R155, R156) -/

/-- The other pump. -/
def otherPump : PumpId → PumpId
  | .chip => .main
  | .main => .chip

/-- The pump a raise names: of the pumps in a state, the one that has changed, else the other. -/
def State.pumpNamed (s : State) (st : DriveState) (p : PumpId) : PumpId :=
  if (s.pump p).state = st then p else otherPump p

/-- The two pump conditions after a change of a pump's state (R155, R156). -/
def judgePumps (p : PumpId) (s : State) : State :=
  let off := s.ptc.chip.state == .offSpeed || s.ptc.main.state == .offSpeed
  let stalled := s.ptc.chip.state == .stalled || s.ptc.main.state == .stalled
  judgeLow .wavePumpStall stalled (pumpNumber (s.pumpNamed .stalled p))
    (judgeLow .wavePumpSpeed (s.amc.mode == .production && off) (pumpNumber (s.pumpNamed .offSpeed p)) s)

/-- The pump conditions where both pumps or the mode may have changed: the lower pump is named first (R155; assumption
log, entry 16). -/
def judgeBothPumps (s : State) : State := judgePumps .chip s

/-- A change of a pump's state away from AT_SPEED marks every member of its list (R157, R158). -/
def markPassages (p : PumpId) (s : State) : State :=
  forEach (s.passages p) (fun m => addReason m.docket .wavePump) s

/-- A pump leaves a state: the quiet rule's time and the members of its list follow (R157, R158, R159). -/
def pumpLeft (p : PumpId) (old : DriveState) (s : State) : State :=
  let s := if p = .main ∧ old = .ramping then { s with ptc.mainLeftRamping := some s.amc.ticks } else s
  if old = .atSpeed then markPassages p s else s

/-- A pump's state becomes another: the lists, the alarms, the quiet rule's time and LEVEL_CALIBRATE follow. -/
def pumpMoved (p : PumpId) (old : DriveState) (s : State) : State :=
  if old = (s.pump p).state then s else calibrateStopped (judgePumps p (pumpLeft p old s))

/-- Replace a pump's record and let its change of state be known. -/
def changePump (p : PumpId) (r : Pump) (s : State) : State := pumpMoved p (s.pump p).state (putPump p r s)

/-! ### Commands (R153) -/

/-- A pump's target under the mode as it stands. -/
def State.pumpTarget (s : State) (p : PumpId) : Nat :=
  match s.amc.profile with
  | none => 0
  | some f =>
    match p, s.amc.mode.runs with
    | .chip, true => f.chipProduction
    | .chip, false => f.chipIdle
    | .main, true => f.mainProduction
    | .main, false => f.mainIdle

/-- A pump's command (R153). -/
def State.pumpCommand (s : State) (p : PumpId) : Nat :=
  if s.ptc.pot.state.molten && s.amc.mode.works && !s.calibrating then s.pumpTarget p else 0

/-- A pump's record when its command changes (R155, first two rows); a command below 100 sets the zero count to 0
(R156). -/
def Pump.commanded (r : Pump) (c : Nat) : Pump :=
  let r := if c < 100 then { r with zero := 0 } else r
  if r.reference = 0 then
    if r.command = 0 ∧ r.state = .stopped then
      { r with command := c, arrival := none, state := .ramping, inBand := 0, zero := 0 }
    else { r with command := c, arrival := none }
  else
    { r with command := c, arrival := none, inBand := 0,
             state := if r.state = .stalled then .stalled else .ramping }

/-- A pump takes a command: its record, and what follows where its state changes (R155). -/
def takeCommand (p : PumpId) (c : Nat) (s : State) : State :=
  let old := (s.pump p).state
  let s := putPump p ((s.pump p).commanded c) s
  if old = (s.pump p).state then s else pumpLeft p old s

/-- PTC recomputes a pump's command; a command that rises above 0 places the tachometer claim (R153, R154). -/
def followCommand (p : PumpId) (s : State) : State :=
  let old := (s.pump p).command
  let c := s.pumpCommand p
  if c = old then s
  else if old = 0 then placeBlock (pumpSource p) (.rate 500) .ptc (takeCommand p c s)
  else takeCommand p c s

/-- PTC recomputes both commands; the pump conditions are judged on both pumps as the event leaves them (R155; assumption
log, entry 16). -/
def followCommands (s : State) : State :=
  let t := followCommand .main (followCommand .chip s)
  if t.ptc.chip.state = s.ptc.chip.state ∧ t.ptc.main.state = s.ptc.main.state then t else judgeBothPumps t

/-! ### Level and feeder -/

/-- The level state of a level (R160). -/
def levelStateOf (d : Description) (l : Int) : LevelState :=
  if d.highHigh ≤ l then .high
  else if l ≤ d.lowLow then .lowLow
  else if l ≤ d.feedOn then .low
  else .normal

/-- The level state from the level average (R160). -/
def State.levelStateNow (s : State) : LevelState :=
  match s.level, s.amc.inForce with
  | some l, some d => levelStateOf d l
  | _, _ => .unknown

/-- The level is at or above feed-off. -/
def State.atFeedOff (s : State) : Bool :=
  match s.level, s.amc.inForce with
  | some l, some d => decide (d.feedOff ≤ l)
  | _, _ => false

/-- The conditions of automatic feeding other than the level state (R161). -/
def State.feedAllowed (s : State) : Bool :=
  s.ptc.pot.state.molten && s.amc.mode.works && s.ptc.feed.isNone && !s.calibrating

/-- R161 is judged: an IDLE feeder begins, a FEEDING one stops. -/
def judgeFeeder (s : State) : State :=
  if s.ptc.feed.isSome then s
  else
    match s.ptc.feeder with
    | .idle =>
      if (s.ptc.levelState = .low ∨ s.ptc.levelState = .lowLow) ∧ s.feedAllowed = true then
        { s with ptc.feeder := .feeding }
      else s
    | .feeding =>
      if s.atFeedOff ∨ s.ptc.levelState = .unknown ∨ s.ptc.levelState = .high ∨ s.feedAllowed = false then
        { s with ptc.feeder := .idle }
      else s
    | .blocked => s

/-- The feed timer is set to 0 at each level at or above feed-off while the feeder is IDLE or FEEDING (R161). -/
def resetFeedTimer (s : State) : State :=
  if s.atFeedOff ∧ s.ptc.feeder ≠ .blocked then { s with ptc.feedTimer := 0 } else s

/-- BLOCKED is cleared: IDLE with timer 0 (R162). -/
def clearBlocked (s : State) : State :=
  if s.ptc.feeder = .blocked then { s with ptc.feeder := .idle, ptc.feedTimer := 0 } else s

/-- A FEED_SOLDER ends: output off, feeder IDLE, replies, result, DONE; then R161 is judged afresh with the feed timer at
0 (R165). -/
def endFeed (result : RequestResult) (cause : Half) (s : State) : State :=
  match s.ptc.feed with
  | none => s
  | some f =>
    let s := { s with ptc.feed := none, ptc.feeder := .idle, ptc.feedTimer := 0 }
    let s := putReply f.cell 0 (BitVec.ofNat 16 (min f.duration (s.since f.since))) s
    let s := putReply f.cell 1 cause s
    let s := putReply f.cell 2 s.levelHalf s
    judgeFeeder (endCell f.cell result s)

/-- A FEED_SOLDER in flight meets the level state and the pot state as they stand (R165). -/
def followFeed (s : State) : State :=
  if s.ptc.levelState = .high then endFeed .ok 1 s
  else if s.ptc.levelState = .unknown then endFeed .ok 2 s
  else if s.ptc.pot.state.molten then s
  else endFeed .aborted 3 s

/-- The three level conditions are judged (R160). -/
def judgeLevelAlarms (s : State) : State :=
  judgeLow .levelEchoLost s.ptc.echoLost 0
    (judgeLow .solderLevelHigh (s.ptc.levelState == .high) s.levelHalf
      (judgeLow .solderLevelLow (s.ptc.levelState == .lowLow) s.levelHalf s))

/-- The level has changed: its state, the alarms, the feeder and a FEED_SOLDER in flight follow (R160, R161, R165). -/
def levelChanged (s : State) : State :=
  let s := judgeLevelAlarms { s with ptc.levelState := s.levelStateNow }
  judgeFeeder (resetFeedTimer (followFeed s))

/-! ### Pot states (R148, R149, R151, R152) -/

/-- The pot has a sensor fault (R147). -/
def Pot.sensorFault (p : Pot) : Bool := p.faultA || p.faultB || p.disagreement

/-- The pot heater forced off at once (R150). -/
def Pot.forcedOff (p : Pot) : Pot := { p with activeDuty := 0, bufferedDuty := none, heaterOn := false }

/-- The pot record on entering a state: OFF and FAULT force the heater off; the settle timer is stopped in every state
but DEVIATION, which keeps it as it is (R148, R149, R151). -/
def Pot.entered (p : Pot) (st : PotState) : Pot :=
  match st with
  | .off | .fault => { p.forcedOff with state := st, settle := none }
  | .melting | .heating | .ready => { p with state := st, settle := none }
  | .deviation => { p with state := st }

/-- POT_A's last good value. -/
def State.potA (s : State) : Option Half := (s.tlk.channels[chanPotA]).lastGood

/-- POT_B's last good value. -/
def State.potB (s : State) : Option Half := (s.tlk.channels[chanPotB]).lastGood

/-- POT_NOT_READY is judged (R152).  Its detail is POT_A's last good value; the manual states none for an absent value,
and the detail is then free (assumption log, entry 13). -/
def judgePotReady (s : State) : State :=
  let st := s.ptc.pot.state
  let holds := s.amc.mode == .production && !s.inSettle && (st == .melting || st == .heating || st == .deviation)
  if holds && !s.present .potNotReady && s.potA.isNone then
    raiseLow .potNotReady (Config.freeHalf s.free) none { s with free := s.free + 1 }
  else judgeLow .potNotReady holds (s.potA.getD 0) s

/-- The pumps, the feeder, a FEED_SOLDER in flight and POT_NOT_READY follow the pot state. -/
def potFollowed (s : State) : State := judgePotReady (judgeFeeder (followCommands (followFeed s)))

/-- The pot enters a state. -/
def enterPot (st : PotState) (s : State) : State :=
  let old := s.ptc.pot.state
  let s := putPot (s.ptc.pot.entered st) s
  if old = st then s else potFollowed s

/-- The pot is below the melt point in force, or POT_A has no value. -/
def State.belowMelt (s : State) : Bool :=
  match s.potA with
  | none => true
  | some a => decide (a.toInt < ((s.amc.profile.map (·.melt)).getD 0 : Int))

/-- The pot's state on a mode entry without a sensor fault, and on recovery (R148, R151). -/
def State.potHeatState (s : State) : PotState := if s.belowMelt then .melting else .heating

/-- The pot on a mode event (R148). -/
def potOnMode (old : Mode) (s : State) : State :=
  if !s.amc.mode.works then enterPot .off s
  else if !old.works then enterPot (if s.ptc.pot.sensorFault then .fault else s.potHeatState) s
  else s

/-- The pot's state at a SWITCH: MELTING only where POT_A's last good value is below the new melt point (R148). -/
def State.potSwitchState (s : State) : PotState := if s.potA.isSome && s.belowMelt then .melting else .heating

/-- The pot at a SWITCH, with the new settings in force (R148). -/
def potOnSwitch (s : State) : State := if s.ptc.pot.state = .fault then s else enterPot s.potSwitchState s

/-- The pot's duty on a good frame of POT_A (R150). -/
def controlPot (a : Int) (s : State) : State :=
  let p := s.ptc.pot
  match s.amc.profile with
  | none => s
  | some f =>
    let d := controlDuty f.potHold f.potSetpoint f.potBand a 0 f.potMax
    match p.state with
    | .melting => if p.overtemp then s else putPot { p with bufferedDuty := some (min d f.meltCap) } s
    | .heating | .ready | .deviation => if p.overtemp then s else putPot { p with bufferedDuty := some d } s
    | .off | .fault => s

/-- The melt check of a good frame of POT_A (R149, step 1). -/
def meltCheck (s : State) : State :=
  match s.ptc.pot.state with
  | .heating | .ready | .deviation => if s.belowMelt then enterPot .melting s else s
  | .melting => if s.belowMelt then s else enterPot .heating s
  | .off | .fault => s

/-- The band check of a good frame of POT_A (R149, step 2). -/
def potBandCheck (a : Int) (s : State) : State :=
  let p := s.ptc.pot
  let hit := inBand a ((s.amc.profile.map (·.potSetpoint)).getD 0) ((s.amc.profile.map (·.potBand)).getD 0)
  match p.state, hit with
  | .heating, true => if p.settle.isNone then putPot { p with settle := some s.amc.ticks } s else s
  | .heating, false => putPot { p with settle := none } s
  | .ready, false => enterPot .deviation s
  | .deviation, true => enterPot .ready s
  | _, _ => s

/-- POT_SETTLE_EXPIRY is due. -/
def State.potSettleDue (s : State) : Bool :=
  s.ptc.pot.state == .heating && s.timerReached s.ptc.pot.settle (1000 * (s.amc.profile.map (·.potSettle)).getD 0)

/-- POT_SETTLE_EXPIRY (R149). -/
def potSettleExpiry (s : State) : State := if s.potSettleDue then enterPot .ready s else s

/-- POT_HEATER_PERIOD_START is due. -/
def State.potPeriodDue (s : State) : Bool := s.hpx.phase != .initialising && decide (s.ptc.nextPotPeriod ≤ s.amc.ticks)

/-- POT_HEATER_PERIOD_START (R150). -/
def potPeriodStart (s : State) : State :=
  if s.potPeriodDue then
    let p := s.ptc.pot
    let d := p.bufferedDuty.getD p.activeDuty
    { s with ptc.pot := { p with activeDuty := d, bufferedDuty := none, heaterOn := decide (0 < d) },
             ptc.potPeriodStart := s.amc.ticks, ptc.nextPotPeriod := s.ptc.nextPotPeriod + 4000 }
  else s

/-- POT_HEATER_ON_TIME_END is due. -/
def State.potOnTimeDue (s : State) : Bool :=
  let p := s.ptc.pot
  p.heaterOn && decide (p.activeDuty < 1000) && s.hasRun s.ptc.potPeriodStart (4 * p.activeDuty)

/-- POT_HEATER_ON_TIME_END (R150). -/
def potOnTimeEnd (s : State) : State := if s.potOnTimeDue then putPot { s.ptc.pot with heaterOn := false } s else s

/-! ### Pump ramp, results and staleness (R153 to R156) -/

/-- A pump's record after a ramp step. -/
def Pump.ramped (r : Pump) (now : Nat) : Pump :=
  let ref := rampTowards 50 r.reference r.command
  let r := { r with reference := ref, arrival := if ref = r.command ∧ r.arrival = none then some now else r.arrival }
  if ref = 0 ∧ r.command = 0 ∧ r.state ≠ .stopped then { r with state := .stopped, inBand := 0, zero := 0 } else r

/-- PUMP_RAMP_STEP is due. -/
def State.pumpRampDue (s : State) : Bool := s.hpx.phase != .initialising && decide (s.ptc.nextRamp ≤ s.amc.ticks)

/-- One pump's ramp step. -/
def rampPump (p : PumpId) (s : State) : State := changePump p ((s.pump p).ramped s.amc.ticks) s

/-- PUMP_RAMP_STEP. -/
def pumpRamp (s : State) : State :=
  if s.pumpRampDue then
    calibrateStopped (rampPump .main (rampPump .chip { s with ptc.nextRamp := s.ptc.nextRamp + 100 }))
  else s

/-- A pump's pulses per revolution in force. -/
def State.pumpPpr (s : State) (p : PumpId) : Nat :=
  match p, s.amc.inForce with
  | _, none => 1
  | .chip, some d => d.pprChip
  | .main, some d => d.pprMain

/-- A measured speed is within 5 % of a command (R155). -/
def pumpInBand (speed command : Nat) : Bool :=
  decide ((max speed command - min speed command) * 100 ≤ 5 * command)

/-- The zero count and a stall or its end on an OK result (R156); true when the result has moved the pump into or out of
STALLED. -/
def Pump.stallJudged (r : Pump) (value : Nat) : Pump × Bool :=
  if value = 0 ∧ 100 ≤ r.command then
    if 1 ≤ r.zero ∧ (r.state = .ramping ∨ r.state = .atSpeed ∨ r.state = .offSpeed) then
      ({ r with state := .stalled, zero := 0 }, true)
    else ({ r with zero := if 1 ≤ r.zero then 0 else r.zero + 1 }, false)
  else if 0 < value ∧ r.state = .stalled then ({ r with state := .ramping, inBand := 0, zero := 0 }, true)
  else ({ r with zero := 0 }, false)

/-- The band judgement of a judged result (R155). -/
def Pump.bandJudged (r : Pump) (hit : Bool) : Pump :=
  if hit then
    let n := r.inBand + 1
    { r with inBand := n,
             state := if 2 ≤ n ∧ (r.state = .ramping ∨ r.state = .offSpeed) then .atSpeed else r.state }
  else
    { r with inBand := 0, state := if r.state = .ramping ∨ r.state = .atSpeed then .offSpeed else r.state }

/-- A result is judged for band: the command above 0, the reference at the command, the gate opened after the arrival
time, and the pump not STALLED (R155, R156). -/
def Pump.isJudged (r : Pump) (gateOpened : Nat) : Bool :=
  decide (0 < r.command) && r.reference == r.command && r.arrival.any (fun t => decide (t < gateOpened)) &&
    r.state != .stalled

/-- A pump's record after an OK result of its tachometer. -/
def Pump.taken (r : Pump) (value ppr gateOpened now : Nat) (speed : Half) : Pump :=
  let r := { r with measured := some speed, lastResult := some now }
  let j := (r.stallJudged value).1
  if !(r.stallJudged value).2 && j.isJudged gateOpened then j.bandJudged (pumpInBand (pumpRpm value ppr) j.command)
  else j

/-- A member's minimum and maximum after a measured speed (R157). -/
def Passage.take (m : Passage) (v : Half) : Passage :=
  { m with minimum := some (match m.minimum with
                            | some x => if v.toNat < x.toNat then v else x
                            | none => v)
           maximum := some (match m.maximum with
                            | some x => if x.toNat < v.toNat then v else x
                            | none => v) }

/-- An OK result of a pump's tachometer (R154 to R157). -/
def pumpOk (p : PumpId) (value gateOpened : Nat) (s : State) : State :=
  let ppr := s.pumpPpr p
  let v := s.half16 (pumpRpm value ppr)
  let s := takeHalf (pumpRpm value ppr) s
  let s := putPassages p ((s.passages p).map (·.take v)) s
  changePump p ((s.pump p).taken value ppr gateOpened s.amc.ticks v) s

/-- A result of a pump's tachometer: an OK one is taken, and the claim is placed again (R154). -/
def pumpResult (p : PumpId) (status : ResultStatus) (value gateOpened : Nat) (s : State) : State :=
  let s := if status = .ok then pumpOk p value gateOpened s else s
  if (s.pump p).claims then placeBlock (pumpSource p) (.rate 500) .ptc s else s

/-- PUMP_SPEED_STALE is due: more than 1,500 ms since the last speed result, while the pump is claiming (R154). That it
is claiming only while its command is above 0 or its state is not STOPPED, and not while a last claim still stands
after that, is the model's choice (DESIGN CHOICE; assumption log, entry 35). -/
def State.staleDue (s : State) (p : PumpId) : Bool :=
  let r := s.pump p
  r.measured.isSome && r.claims && s.timerReached r.lastResult 1501

/-- PUMP_SPEED_STALE (R154). -/
def pumpStale (p : PumpId) (s : State) : State :=
  if s.staleDue p then putPump p { s.pump p with measured := none, inBand := 0, zero := 0 } s else s

/-! ### Wave passages (R157, R158) -/

/-- A board joins a list (R157, R158). A member whose board has left the map before its OUT event stays, so the list is
not held to 12 members: the model's choice (DESIGN CHOICE; assumption log, entry 38). -/
def joinPassage (p : PumpId) (board : Word) (d : DocketNo) (s : State) : State :=
  putPassages p
    ((s.passages p).filter (fun m => m.board != board) ++
      [{ board := board, docket := d, minimum := none, maximum := none, inTime := s.lineClock }]) s

/-- A board meets a pump that is not AT_SPEED. -/
def markPump (p : PumpId) (d : DocketNo) (s : State) : State :=
  if (s.pump p).state = .atSpeed then s else addReason d .wavePump s

/-- MAIN_IN. -/
def mainIn (board : Word) (docket : Option DocketNo) (s : State) : State :=
  match docket with
  | none => s
  | some d =>
    if s.onLine d then
      let s := putField d 62 (optHalf (s.potA.map encSignedHalf)) s
      let s := if s.ptc.pot.state = .ready then s else addReason d .potTemp s
      joinPassage .main board d (markPump .main d s)
    else s

/-- CHIP_IN. -/
def chipIn (board : Word) (docket : Option DocketNo) (s : State) : State :=
  match docket with
  | none => s
  | some d =>
    if s.onLine d then
      let bad := s.anyBad [recipeBase (s.recipeOf d) + 7]
      let s := reportBad [recipeBase (s.recipeOf d) + 7] d s
      if bad || !s.chipWave (s.recipeOf d) then s else joinPassage .chip board d (markPump .chip d s)
    else s

/-- A board's member of a list. -/
def State.passageOf (s : State) (p : PumpId) (board : Word) : Option Passage :=
  (s.passages p).find? fun m => m.board == board

/-- The contact time in ms lies in the recipe's window. -/
def State.contactInWindow (s : State) (d : DocketNo) (t : Nat) : Bool :=
  let b := recipeBase (s.recipeOf d)
  within t (s.u16 (b + 122)) (s.u16 (b + 124))

/-- MAIN_CROSS. -/
def mainCross (board : Word) (s : State) : State :=
  match s.passageOf .main board with
  | none => s
  | some m =>
    if s.onLine m.docket then
      let t := (s.lineClock - m.inTime).toNat
      let s := putField m.docket 72 (BitVec.ofNat 16 (min t 65534)) s
      let bad := s.anyBad (span (recipeBase (s.recipeOf m.docket) + 122) 4)
      let s := reportBad (span (recipeBase (s.recipeOf m.docket) + 122) 4) m.docket s
      if bad || s.contactInWindow m.docket t then s else addReason m.docket .contactTime s
    else s

/-- CHIP_OUT and MAIN_OUT: the member's minimum and maximum are written from an offset of the docket on, and the member
leaves. -/
def waveOut (p : PumpId) (off : Nat) (board : Word) (s : State) : State :=
  match s.passageOf p board with
  | none => s
  | some m =>
    let s := putField m.docket (off + 2) (optHalf m.maximum) (putField m.docket off (optHalf m.minimum) s)
    putPassages p ((s.passages p).filter fun m => m.board != board) s

/-- CHIP_OUT. -/
def chipOut (board : Word) (s : State) : State := waveOut .chip 64 board s

/-- MAIN_OUT. -/
def mainOut (board : Word) (s : State) : State := waveOut .main 68 board s

/-- PTC takes a discard notice (R158). -/
def potDiscard (s : State) : State := { s with ptc.chipList := [], ptc.mainList := [] }

/-! ### Echo results (R159, R160, R163, R164) -/

/-- The quiet rule discards this result (R159). -/
def State.echoQuiet (s : State) : Bool :=
  s.ptc.main.state == .ramping || s.ptc.mainLeftRamping.any fun t => decide (s.since t ≤ 2000)

/-- A LEVEL_CALIBRATE ends: the pumps' commands and the feeder follow (R163, R164). -/
def endCalibrate (cell : CellNo) (result : RequestResult) (s : State) : State :=
  judgeFeeder (followCommands { endCell cell result s with ptc.calibrate := none })

/-- The phase number of a LEVEL_CALIBRATE and, once SAMPLING is entered, its failure count; before it reply 1 stays absent
(assumption log, entry 30). -/
def CalibratePhase.reply : CalibratePhase → Half × Option Nat
  | .stopping => (1, none)
  | .quiet _ => (2, none)
  | .sampling _ _ f => (3, some f)

/-- A LEVEL_CALIBRATE in flight ends early (R164). -/
def abortCalibrate (result : RequestResult) (s : State) : State :=
  match s.ptc.calibrate with
  | none => s
  | some { cell := c, phase := ph } =>
    let s :=
      match ph.reply.2 with
      | some f => putReply c 1 (BitVec.ofNat 16 f) s
      | none => s
    endCalibrate c result (putReply c 2 ph.reply.1 s)

/-- The 16th sample completes LEVEL_CALIBRATE (R163). -/
def completeCalibrate (cell : CellNo) (sum failures : Nat) (s : State) : State :=
  let mean := sum / 16
  let good := within mean 1 1000
  let s := if good then levelChanged { s with ptc.workingRef := some mean } else s
  let s := putReply cell 0 (BitVec.ofNat 16 mean) s
  let s := putReply cell 1 (BitVec.ofNat 16 failures) s
  let s := putReply cell 2 3 s
  endCalibrate cell (if good then .ok else .invalid) s

/-- LEVEL_CALIBRATE takes an ECHO result in SAMPLING (R163, R164). -/
def calibrateSample (distance : Option Nat) (s : State) : State :=
  match s.ptc.calibrate with
  | some { cell := c, phase := .sampling sum n f } =>
    match distance with
    | some d =>
      if n + 1 = 16 then completeCalibrate c (sum + d) f s
      else { s with ptc.calibrate := some { cell := c, phase := .sampling (sum + d) (n + 1) f } }
    | none =>
      let s := { s with ptc.calibrate := some { cell := c, phase := .sampling sum n (f + 1) } }
      if f + 1 = 5 then abortCalibrate .aborted s else s
  | some { phase := .stopping, .. } | some { phase := .quiet _, .. } | none => s

/-- A failed echo (R159, R160). -/
def echoFailed (s : State) : State :=
  let n := s.ptc.echoFailures + 1
  let s := { s with ptc.echoFailures := n }
  if 4 ≤ n then levelChanged { s with ptc.distances := [], ptc.echoLost := true } else s

/-- A valid echo of a distance (R159, R160). -/
def echoValid (d : Nat) (s : State) : State :=
  let l := s.ptc.distances ++ [d]
  levelChanged
    { s with ptc.echoFailures := 0, ptc.echoLost := false, ptc.distances := l.drop (l.length - 8) }

/-- An ECHO result reaches PTC (R159); the level is judged before a calibration's sample is counted (assumption log, entry
16). -/
def echoResult (status : ResultStatus) (value : Nat) (s : State) : State :=
  if s.echoQuiet then s
  else if status = .ok then
    let d := echoDistance value ((s.amc.inForce.map (·.usPerMm)).getD 1)
    calibrateSample (some d) (echoValid d s)
  else calibrateSample none (echoFailed s)

/-- ECHO_CLAIM_PLACEMENT is due. -/
def State.echoDue (s : State) : Bool := s.hpx.phase != .initialising && decide (s.ptc.nextEcho ≤ s.amc.ticks)

/-- ECHO_CLAIM_PLACEMENT (R159): at every 250th tick, a claim while a description is in force. -/
def echoPlacement (s : State) : State :=
  if s.echoDue then
    let s := { s with ptc.nextEcho := s.ptc.nextEcho + 250 }
    if s.amc.inForce.isSome then placeBlock .echo .span .ptc s else s
  else s

/-! ### Timers of the feeder and the calibration -/

/-- CALIBRATE_QUIET_EXPIRY is due. -/
def State.quietDue (s : State) : Bool :=
  match s.ptc.calibrate with
  | some { phase := .quiet t, .. } => s.hasRun t 10000
  | some { phase := .stopping, .. } | some { phase := .sampling _ _ _, .. } | none => false

/-- CALIBRATE_QUIET_EXPIRY (R163). -/
def quietExpiry (s : State) : State :=
  match s.ptc.calibrate with
  | none => s
  | some c => if s.quietDue then { s with ptc.calibrate := some { c with phase := .sampling 0 0 0 } } else s

/-- FEED_REQUEST_TIMER_EXPIRY is due. -/
def State.feedRequestDue (s : State) : Bool := s.ptc.feed.any fun f => s.hasRun f.since f.duration

/-- FEED_REQUEST_TIMER_EXPIRY (R165). -/
def feedRequestExpiry (s : State) : State := if s.feedRequestDue then endFeed .ok 0 s else s

/-- The maximum feed time in force, in ms. -/
def State.maxFeedMs (s : State) : Nat := 1000 * (s.amc.inForce.map (·.maxFeed)).getD 0

/-- FEED_TIMEOUT is due: the feed timer has reached the maximum feed time while FEEDING (R162). A timer frozen above a
shorter maximum that a later START puts in force is kept as it stands, and the feeder is BLOCKED as soon as it feeds
again: the model's choice (DESIGN CHOICE; assumption log, entry 39). -/
def State.feedTimeoutDue (s : State) : Bool :=
  s.ptc.feeder == .feeding && s.ptc.feed.isNone && decide (s.maxFeedMs ≤ s.ptc.feedTimer)

/-- FEED_TIMEOUT (R162). -/
def feedTimeout (s : State) : State :=
  if s.feedTimeoutDue then
    pulseLow .wireFeedTimeout (if s.level.isSome then s.levelHalf else 32767) none { s with ptc.feeder := .blocked }
  else s

end Sys2Proof.Machine
end

