-- ==== Sys2Proof/Machine/Extraction.lean ====
section
/-! DEFINITION. The extraction monitor (chapter 10) and the channel starts of the fume link (R115).  EXTRACT_FAILED, of
class SAFE, is pulsed in Events.lean. -/

namespace Sys2Proof.Machine

/-! ### The state (R169, R172) -/

/-- Conditions are judged while the fan runs and suppression has ended. -/
def State.extractJudged (s : State) : Bool :=
  match s.exm.state with
  | .running | .degraded | .lost => true
  | .off | .starting => false

/-- The grace timer when the extraction state changes (R172). -/
def graceOn (old new : ExtractState) (g : GraceTimer) (now : Nat) : GraceTimer :=
  if new = .lost then .running now else if old = .lost then .stopped else g

/-- The extraction enters a state; FXC takes the change (R122, R130, R169, R172). -/
def enterExtract (new : ExtractState) (s : State) : State :=
  if s.exm.state = new then s
  else fluxLoss { s with exm.state := new, exm.grace := graceOn s.exm.state new s.exm.grace s.amc.ticks }

/-- The state the conditions give (R169). -/
def State.extractDerived (s : State) : ExtractState :=
  if s.exm.airflowLost.holds || s.exm.fanStall || s.exm.sensorLink then .lost
  else if s.exm.airflowLow.holds then .degraded
  else .running

/-- The state is derived again, where conditions are judged. -/
def deriveExtract (s : State) : State := if s.extractJudged then enterExtract s.extractDerived s else s

/-! ### The pressure conditions (R170) -/

/-- A condition's record. -/
def State.pressureCond (s : State) (c : PressureCond) : Confirmed :=
  match c with
  | .airflowLow => s.exm.airflowLow
  | .airflowLost => s.exm.airflowLost
  | .filterLoaded => s.exm.filterLoaded
  | .filterClogged => s.exm.filterClogged

/-- Replace a condition's record. -/
def putCond (c : PressureCond) (r : Confirmed) (s : State) : State :=
  match c with
  | .airflowLow => { s with exm.airflowLow := r }
  | .airflowLost => { s with exm.airflowLost := r }
  | .filterLoaded => { s with exm.filterLoaded := r }
  | .filterClogged => { s with exm.filterClogged := r }

/-- A condition's alarm. -/
def condAlarm : PressureCond → Alarm
  | .airflowLow => .extractAirflowLow
  | .airflowLost => .extractAirflowLost
  | .filterLoaded => .filterLoaded
  | .filterClogged => .filterClogged

/-- The test for the change of a condition at a pressure: its appearance while absent, its disappearance while present. -/
def condTest (d : Description) (c : PressureCond) (holds : Bool) (dp : Int) : Bool :=
  match c with
  | .airflowLow => if holds then decide (((d.ductLow + d.hysteresis : Nat) : Int) ≤ dp) else decide (dp < d.ductLow)
  | .airflowLost => if holds then decide (((d.ductLost + d.hysteresis : Nat) : Int) ≤ dp) else decide (dp < d.ductLost)
  | .filterLoaded =>
    if holds then decide (dp ≤ (d.filterWarn : Int) - d.hysteresis) else decide ((d.filterWarn : Int) < dp)
  | .filterClogged =>
    if holds then decide (dp ≤ (d.filterLimit : Int) - d.hysteresis) else decide ((d.filterLimit : Int) < dp)

/-- A sample starts a stopped confirmation timer where it meets the test, and stops the timer where it does not. -/
def sampleCond (c : PressureCond) (dp : Int) (s : State) : State :=
  match s.amc.inForce with
  | none => s
  | some d =>
    let r := s.pressureCond c
    putCond c { r with timer := if condTest d c r.holds dp then some (r.timer.getD s.amc.ticks) else none } s

/-- EXM takes the pressure of a good poll (R170, R173). -/
def takePressure (sensor : FumeSensor) (p : Half) (s : State) : State :=
  match sensor with
  | .duct =>
    let s := { s with exm.ductDp := some (encSignedHalf p) }
    if s.extractJudged then sampleCond .airflowLost p.toInt (sampleCond .airflowLow p.toInt s) else s
  | .filter =>
    let s := { s with exm.filterDp := some (encSignedHalf p) }
    if s.extractJudged then sampleCond .filterClogged p.toInt (sampleCond .filterLoaded p.toInt s) else s

/-- The pressure of a condition's sensor, of its last good poll. -/
def State.condPressure (s : State) (c : PressureCond) : Half :=
  match c with
  | .airflowLow | .airflowLost => s.exm.ductDp.getD 0
  | .filterLoaded | .filterClogged => s.exm.filterDp.getD 0

/-- EXTRACT_CONFIRMATION_EXPIRY is due. -/
def State.condDue (s : State) (c : PressureCond) : Bool := s.timerReached (s.pressureCond c).timer 2000

/-- EXTRACT_CONFIRMATION_EXPIRY: the condition changes and its timer stops, with its claim and the derived state
(R170). -/
def condExpiry (c : PressureCond) (s : State) : State :=
  if s.condDue c then
    let holds := !(s.pressureCond c).holds
    deriveExtract (judgeLow (condAlarm c) holds (s.condPressure c) (putCond c { holds := holds, timer := none } s))
  else s

/-! ### The fan (R168, R171) -/

/-- EXM places its TACH_FAN claim. -/
def placeFan (s : State) : State := placeBlock .tachFan (.rate 1000) .exm s

/-- The stall and clear timers on an OK fan result (R171). -/
def judgeFan (rpm : Nat) (s : State) : State :=
  let low := decide (rpm < (s.amc.inForce.map (·.fanMin)).getD 0)
  if s.exm.fanStall then
    { s with exm.clearTimer := if low then none else some (s.exm.clearTimer.getD s.amc.ticks) }
  else { s with exm.stallTimer := if low then some (s.exm.stallTimer.getD s.amc.ticks) else none }

/-- A TACH_FAN result reaches EXM (R171). -/
def fanResult (status : ResultStatus) (value : Nat) (s : State) : State :=
  let s :=
    if status = .ok then
      let rpm := fanRpmOf value ((s.amc.inForce.map (·.pprFan)).getD 1)
      let s := { takeHalf rpm s with exm.fanRpm := some (s.half16 rpm) }
      if s.extractJudged then judgeFan rpm s else s
    else s
  if s.exm.fanOn then placeFan s else s

/-- FAN_STALL_EXPIRY is due. -/
def State.fanStallDue (s : State) : Bool := !s.exm.fanStall && s.timerReached s.exm.stallTimer 3000

/-- FAN_STALL_EXPIRY (R171). -/
def fanStallExpiry (s : State) : State :=
  if s.fanStallDue then
    deriveExtract (raiseLow .extractFanStall (s.exm.fanRpm.getD 0) none
      { s with exm.fanStall := true, exm.stallTimer := none, exm.clearTimer := none })
  else s

/-- FAN_CLEAR_EXPIRY is due. -/
def State.fanClearDue (s : State) : Bool := s.exm.fanStall && s.timerReached s.exm.clearTimer 2000

/-- FAN_CLEAR_EXPIRY (R171). -/
def fanClearExpiry (s : State) : State :=
  if s.fanClearDue then
    deriveExtract (claimClear .extractFanStall
      { s with exm.fanStall := false, exm.stallTimer := none, exm.clearTimer := none })
  else s

/-! ### The sensor link (R171) -/

/-- A sensor's number in a raise detail. -/
def FumeSensor.number : FumeSensor → Half
  | .duct => 1
  | .filter => 2

/-- EXM records a link-fault or clear notice; where conditions are judged SENSOR_LINK follows at once. -/
def linkNotice (sensor : FumeSensor) (fault : Bool) (s : State) : State :=
  let s :=
    match sensor with
    | .duct => { s with exm.linkDuct := fault }
    | .filter => { s with exm.linkFilter := fault }
  let now := s.exm.linkDuct || s.exm.linkFilter
  if s.extractJudged ∧ now ≠ s.exm.sensorLink then
    deriveExtract (judgeLow .extractSensorLink now sensor.number { s with exm.sensorLink := now })
  else s

/-! ### Starting, run-on and stopping (R168, R169) -/

/-- Every condition absent and every timer of the conditions stopped. -/
def conditionsAbsent (s : State) : State :=
  { s with exm.airflowLow := .absent, exm.airflowLost := .absent, exm.filterLoaded := .absent,
           exm.filterClogged := .absent, exm.fanStall := false, exm.stallTimer := none, exm.clearTimer := none,
           exm.sensorLink := false }

/-- The clear claim of each condition that was present. -/
def clearConditions (s : State) : State :=
  claimClear .extractAirflowLow (claimClear .extractAirflowLost (claimClear .extractFanStall
    (claimClear .extractSensorLink (claimClear .filterLoaded (claimClear .filterClogged s)))))

/-- The fan is switched on, or returned to STARTING, by a START (R168, R169; assumption log, entry 19). -/
def fanStart (s : State) : State :=
  placeFan (enterExtract .starting (clearConditions (conditionsAbsent
    { s with exm.fanOn := true, exm.runOn := none, exm.suppression := some s.amc.ticks })))

/-- EXTRACT_SUPPRESSION_EXPIRY is due. -/
def State.suppressionDue (s : State) : Bool :=
  s.exm.state == .starting &&
    s.timerReached s.exm.suppression (1000 * (s.amc.inForce.map (·.suppression)).getD 0)

/-- EXTRACT_SUPPRESSION_EXPIRY: conditions begin to be judged from absent; a link fault already recorded is SENSOR_LINK
at once (R169, R171). -/
def suppressionExpiry (s : State) : State :=
  if s.suppressionDue then
    let s := { s with exm.suppression := none }
    if s.exm.linkDuct || s.exm.linkFilter then
      enterExtract .lost (raiseLow .extractSensorLink (if s.exm.linkDuct then 1 else 2) none
        { s with exm.sensorLink := true })
    else enterExtract .running s
  else s

/-- Run-on starts or restarts with the run-on time of the description in force, where the fan is on (R168). -/
def startRunOn (s : State) : State := if s.exm.fanOn then { s with exm.runOn := some s.amc.ticks } else s

/-- RUN_ON_EXPIRY is due. -/
def State.runOnDue (s : State) : Bool := s.timerReached s.exm.runOn (1000 * (s.amc.inForce.map (·.runOn)).getD 0)

/-- RUN_ON_EXPIRY (R168). -/
def runOnExpiry (s : State) : State :=
  if s.runOnDue then
    enterExtract .off (clearConditions (conditionsAbsent (withdraw .tachFan .exm
      { s with exm.fanOn := false, exm.runOn := none, exm.suppression := none, exm.grace := .stopped })))
  else s

/-! ### FLK at a START (R115) -/

/-- Both channels are set afresh; a link fault that was set gives its clear notice.  A poll in progress goes on (assumption
log, entry 28). -/
def flkStart (s : State) : State :=
  let d := s.flk.duct.fault
  let f := s.flk.filter.fault
  let s := { s with flk.duct := .fresh, flk.filter := .fresh }
  let s := if d then linkNotice .duct false s else s
  if f then linkNotice .filter false s else s

/-- GRACE_EXPIRY is due. -/
def State.graceDue (s : State) : Bool :=
  match s.exm.grace with
  | .running t => s.exm.state == .lost && s.hasRun t (1000 * (s.amc.inForce.map (·.grace)).getD 0)
  | .stopped | .expired => false

/-- The detail of EXTRACT_FAILED (R172). -/
def State.failedDetail (s : State) : Half :=
  if s.exm.airflowLost.holds then 1 else if s.exm.fanStall then 2 else 3

end Sys2Proof.Machine
end

