-- ==== Sys2Proof/Machine/Modes.lean ====
section
/-! DEFINITION. Mode changes with what every block does on them (R89, R94), the changeover's SWITCH and ends (R28 to R30),
FINISH's end (R92), and claims on SAFE-class and conveyor-stop alarms with what they bring (R62, R86, R93). -/

namespace Sys2Proof.Machine

/-! ### The mode -/

/-- The mode is written and published; HPX sets ATTN.MODE (R89). -/
def setMode (m : Mode) (s : State) : State := setAttn .mode { s with amc.mode := m }

/-- FXC on a mode event: permission, and the two supply conditions (R122, R127, R128, R130). -/
def fluxOnMode (s : State) : State := judgeTank (judgePressure (fluxLoss s))

/-- PTC's requests on entering SAFE (R94, R164, R165). -/
def potRequestsOnMode (s : State) : State :=
  if s.amc.mode = .safe then abortCalibrate .aborted (endFeed .aborted 4 s) else s

/-- PTC on a mode event. -/
def ptcOnMode (old : Mode) (s : State) : State :=
  judgeFeeder (judgePotReady (judgeBothPumps (followCommands (potOnMode old (potRequestsOnMode s)))))

/-- CVT on a mode event: the run demand and the downstream timer (R60, R75). -/
def cvtOnMode (s : State) : State := followDownstream (followTarget s)

/-- Every block acts on the mode as it now stands; `old` is the mode before (R89; order: assumption log, entry 16). -/
def blocksOnMode (old : Mode) (s : State) : State :=
  cvtOnMode (ptcOnMode old (judgeZones (zonesOnMode old (fluxOnMode s))))

/-- The mode becomes one other than SAFE. -/
def changeMode (m : Mode) (s : State) : State := blocksOnMode s.amc.mode (setMode m s)

/-! ### The changeover (section 2.4) -/

/-- Reply 0 of a changeover holds the active profile index, from DRAIN on (R30; assumption log, entry 30). -/
def replyActive (c : CellNo) (s : State) : State := putReply c 0 (s.amc.activeProfile.zeroExtend 16) s

/-- A PROFILE_SELECT in flight ends: the replies, the phase NONE, the result, DONE; then the conditions that SETTLE held
absent are judged again (R29, R30). -/
def endChangeover (result : RequestResult) (s : State) : State :=
  match s.amc.changeover with
  | none => s
  | some c =>
    let s := putReply c.cell 1 (if c.switchedAt.isSome then 2 else 1) (replyActive c.cell s)
    let s :=
      match c.switchedAt with
      | some t => putReplyWord c.cell 2 (BitVec.ofNat 32 (s.since t)) s
      | none => s
    judgePotReady (judgeDeviation (endCell c.cell result { s with amc.changeover := none }))

/-- The blocks take a profile's settings at a SWITCH (R28). -/
def blocksOnSwitch (s : State) : State :=
  followTarget (judgePotReady (followCommands (potOnSwitch (judgeZones (zonesOnSwitch s)))))

/-- The SWITCH of a changeover (R28). -/
def switchProfile (c : Changeover) (s : State) : State :=
  blocksOnSwitch (replyActive c.cell
    { s with amc.activeProfile := BitVec.ofNat 8 c.target.val
             amc.profile := some (storedProfile s c.target.val)
             amc.changeover := some { c with switchedAt := some s.amc.ticks } })

/-- A changeover in DRAIN takes the SWITCH. -/
def switchIfDraining (s : State) : State :=
  match s.amc.changeover with
  | some c => if c.switchedAt.isNone then switchProfile c s else s
  | none => s

/-- A pump stands where a completed changeover needs it (R29). -/
def State.pumpSettled (s : State) (p : PumpId) : Bool :=
  let t := s.pumpTarget p
  if t = 0 then (s.pump p).state == .stopped else (s.pump p).state == .atSpeed && (s.pump p).command == t

/-- Every enabled zone is READY (R29, R91). -/
def State.zonesReady (s : State) : Bool :=
  allZones.all fun z => s.setpoint z == 0 || (s.zone z).state == .ready

/-- The conditions of a changeover's completion (R29). -/
def State.changeoverSettled (s : State) : Bool :=
  s.inSettle && s.zonesReady && s.ptc.pot.state == .ready && s.pumpSettled .chip && s.pumpSettled .main &&
    (s.amc.mode == .standby || (s.amc.mode.runs && s.cvt.drive == .atSpeed))

/-- CHANGEOVER_COMPLETE (R29). -/
def changeoverComplete (s : State) : State := if s.changeoverSettled then endChangeover .ok s else s

/-- The changeover timer has counted the changeover limit since SWITCH. -/
def State.changeoverDue (s : State) : Bool :=
  match s.amc.changeover with
  | some { switchedAt := some t, .. } => s.hasRun t (1000 * (s.amc.profile.map (·.changeoverLimit)).getD 0)
  | some { switchedAt := none, .. } | none => false

/-- CHANGEOVER_TIMEOUT (R29). -/
def changeoverTimeout (s : State) : State := if s.changeoverDue then endChangeover .timeout s else s

/-! ### FINISH (R92) -/

/-- FINISH ends with a mode change: reply 0 the map count, the result, DONE. -/
def endFinish (result : RequestResult) (s : State) : State :=
  match s.amc.finish with
  | none => s
  | some c =>
    endCell c result (putReply c 0 (BitVec.ofNat 16 s.cvt.map.length) { s with amc.finish := none })

/-- FINISH completes on the map-empty notice with cause EXIT. -/
def finishComplete (s : State) : State :=
  if s.amc.finish.isSome then endFinish .ok (changeMode .standby s) else s

/-- The causes of a map-empty notice (R76). -/
inductive EmptyCause where
  | exit | jam
  deriving DecidableEq, Repr

/-- AMC takes the map-empty notice (R28, R92). -/
def mapEmptied (cause : EmptyCause) (s : State) : State :=
  match cause with
  | .exit => switchIfDraining (finishComplete s)
  | .jam => switchIfDraining s

/-! ### Entering SAFE (R93, R94) -/

/-- AMC adds SAFE_DURING to every docket that is ON_LINE. -/
def markSafeDuring (s : State) : State := forEach allDockets (fun d => addReason d .safeDuring) s

/-- The mode becomes SAFE: AMC ends FINISH and PROFILE_SELECT ABORTED and marks the dockets, and the blocks act. -/
def enterSafe (s : State) : State :=
  blocksOnMode s.amc.mode (markSafeDuring (endChangeover .aborted (endFinish .aborted (setMode .safe s))))

/-- AMC enters SAFE where a SAFE-class alarm is out of QUIET and the mode is STANDBY, PRODUCTION or DRAINING (R93). -/
def safeIfOut (s : State) : State := if s.classOut .safe && s.amc.mode.works then enterSafe s else s

/-! ### Claims that may move the mode, the conveyor or the flux -/

/-- What follows an alarm change in the same event: the conveyor-stop signal (R62, R86), SAFE (R93), permission to flux
(R122); `before` is the signal before the change. -/
def afterAlarm (before : Bool) (s : State) : State := fluxLoss (safeIfOut (followStop before s))

/-- A raise claim of any class. -/
def raiseAny (a : Alarm) (detail : Half) (docket : Option DocketNo) (s : State) : State :=
  afterAlarm s.conveyorStop (claimRaise a detail docket s)

/-- A pulse claim of any class. -/
def pulseAny (a : Alarm) (detail : Half) (docket : Option DocketNo) (s : State) : State :=
  afterAlarm s.conveyorStop (claimPulse a detail docket s)

/-- A clear claim of any class. -/
def clearAny (a : Alarm) (s : State) : State := afterAlarm s.conveyorStop (claimClear a s)

/-- A block judges a condition of any class. -/
def judgeAny (a : Alarm) (holds : Bool) (detail : Half) (s : State) : State :=
  if holds then raiseAny a detail none s else clearAny a s

end Sys2Proof.Machine
end

