-- ==== Sys2Proof/Machine/Frames.lean ====
section
/-! DEFINITION. The sensor links' events: thermo rounds and frames with what PHC and PTC do on them (R111 to R113, R135 to
R138, R149 to R152), and fume polls with what EXM does on them (R114, R115, R170, R171). -/

namespace Sys2Proof.Machine

/-! ### Zone frames -/

/-- ZONE_OVERTEMP is judged; its detail is the zone whose frame made it appear (R138). -/
def judgeOvertemp (z : ZoneNo) (s : State) : State :=
  judgeAny .zoneOvertemp s.anyTooHot (BitVec.ofNat 16 (zoneNumber z)) s

/-- PHC takes a notice for a zone's channel (R137). -/
def zoneNotice (z : ZoneNo) (n : ThermoNotice) (s : State) : State :=
  match n with
  | .none => s
  | .fault d => zoneFaultNotice z d s
  | .restore => zoneRestoreNotice z s

/-- PHC judges a good frame: overtemperature, band, then the control law (R135, R136, R138). -/
def zoneGood (z : ZoneNo) (t : Int) (s : State) : State := controlZone z t (judgeZoneBand z t (judgeZoneHeat z t s))

/-- PHC takes a frame of a zone's channel: the temperature of a good one, and the notice. -/
def zoneFrame (z : ZoneNo) (n : ThermoNotice) (good : Option Half) (s : State) : State :=
  let s := zoneNotice z n s
  let s :=
    match good with
    | some t => zoneGood z t.toInt s
    | none => s
  judgeOvertemp z (judgeZones s)

/-! ### Pot frames -/

/-- The pot record's flags after a notice for a channel (R151). -/
def potNotice (isA : Bool) (n : ThermoNotice) (s : State) : State :=
  let p := s.ptc.pot
  match n with
  | .none => s
  | .fault _ => putPot (if isA then { p with faultA := true } else { p with faultB := true }) s
  | .restore => putPot (if isA then { p with faultA := false } else { p with faultB := false }) s

/-- The disagreement on a good frame of either channel, once both have a last good value (R151). -/
def judgeDisagreement (s : State) : State :=
  match s.potA, s.potB with
  | some a, some b =>
    putPot { s.ptc.pot with disagreement := decide (150 < (a.toInt - b.toInt).natAbs) } s
  | _, _ => s

/-- The pot's state when the sensor fault appears or disappears (R151). -/
def followPotSensor (before : Bool) (s : State) : State :=
  let now := s.ptc.pot.sensorFault
  let st := s.ptc.pot.state
  if now && !before then
    match st with
    | .melting | .heating | .ready | .deviation => enterPot .fault s
    | .off | .fault => s
  else if before && !now && st == .fault then enterPot s.potHeatState s
  else s

/-- The detail of POT_SENSOR (R151). -/
def Pot.sensorDetail (p : Pot) : Half := if p.faultA then 1 else if p.faultB then 2 else 3

/-- POT_SENSOR is judged (R151). -/
def judgePotSensor (s : State) : State := judgeAny .potSensor s.ptc.pot.sensorFault s.ptc.pot.sensorDetail s

/-- The overtemperature of a value of POT_B: its appearance forces the heater off (R152). -/
def judgePotHeat (b : Int) (s : State) : State :=
  let p := s.ptc.pot
  let hot := decide (3300 < b)
  putPot (if hot && !p.overtemp then { p.forcedOff with overtemp := true } else { p with overtemp := hot }) s

/-- POT_OVERTEMP is judged (R152). -/
def judgePotOvertemp (s : State) : State := judgeAny .potOvertemp s.ptc.pot.overtemp (s.potB.getD 0) s

/-- PTC judges a good frame of POT_A: melt, band, then the control law (R149, R150). -/
def potAGood (a : Int) (s : State) : State := controlPot a (potBandCheck a (meltCheck s))

/-- PTC takes a frame of POT_A or POT_B. -/
def potFrame (isA : Bool) (n : ThermoNotice) (good : Option Half) (s : State) : State :=
  let before := s.ptc.pot.sensorFault
  let s := potNotice isA n s
  let s := if good.isSome then judgeDisagreement s else s
  let s := followPotSensor before s
  let s :=
    match good with
    | some t => if isA then potAGood t.toInt s else judgePotHeat t.toInt s
    | none => s
  judgePotOvertemp (judgePotSensor s)

/-! ### The thermo link -/

/-- THERMO_ROUND_START is due. -/
def State.roundDue (s : State) : Bool := s.hpx.phase != .initialising && decide (s.tlk.nextRound ≤ s.amc.ticks)

/-- THERMO_ROUND_START (R111). -/
def roundStart (s : State) : State :=
  if s.roundDue then { s with tlk.nextFrame := some 0, tlk.nextRound := s.tlk.nextRound + 100 } else s

/-- The channel read after one, if the round goes on. -/
def nextChannel (c : Fin 8) : Option (Fin 8) := if h : c.val + 1 < 8 then some ⟨c.val + 1, h⟩ else none

/-- A block takes a frame of a channel: Z1 to Z6 are PHC's, POT_A and POT_B PTC's (R111). -/
def handFrame (c : Fin 8) (n : ThermoNotice) (good : Option Half) (s : State) : State :=
  if h : c.val < 6 then zoneFrame ⟨c.val, h⟩ n good s else potFrame (c == chanPotA) n good s

/-- THERMO_FRAME: the frame of the channel whose turn it is completes (R111 to R113). -/
def thermoFrame (f : ThermoFrame) (s : State) : State :=
  match s.tlk.nextFrame with
  | none => s
  | some c =>
    let r := (s.tlk.channels[c]).take f
    let good := if r.1.suspect then none else some f.temp
    handFrame c r.2 good
      { s with tlk.channels := s.tlk.channels.set c r.1, tlk.nextFrame := nextChannel c }

/-! ### The fume link -/

/-- FUME_POLL_START is due. -/
def State.pollDue (s : State) : Bool := s.hpx.phase != .initialising && decide (s.flk.nextPoll ≤ s.amc.ticks)

/-- FUME_POLL_START: DUCT at every 200th tick, FILTER 100 ms after, while a description is in force (R114). -/
def pollStart (s : State) : State :=
  if s.pollDue then
    let sensor := if s.flk.nextPoll / 100 % 2 = 0 then FumeSensor.duct else .filter
    { s with flk.nextPoll := s.flk.nextPoll + 100
             flk.poll := s.amc.inForce.map fun d =>
               { sensor := sensor, addr := match sensor with
                                           | .duct => d.ductAddr
                                           | .filter => d.filterAddr } }
  else s

/-- A sensor's channel. -/
def State.fumeChannel (s : State) (sensor : FumeSensor) : FumeChannel :=
  match sensor with
  | .duct => s.flk.duct
  | .filter => s.flk.filter

/-- Replace a sensor's channel. -/
def putFume (sensor : FumeSensor) (c : FumeChannel) (s : State) : State :=
  match sensor with
  | .duct => { s with flk.duct := c }
  | .filter => { s with flk.filter := c }

/-- EXM takes a link notice that goes with a poll (R115, R171). -/
def handLink (sensor : FumeSensor) (n : LinkNotice) (s : State) : State :=
  match n with
  | .none => s
  | .fault => linkNotice sensor true s
  | .clear => linkNotice sensor false s

/-- FUME_POLL_END: the poll in progress ends (R114, R115). -/
def pollEnded (bus : FumeBus) (s : State) : State :=
  match s.flk.poll with
  | none => s
  | some p =>
    let s := { s with flk.poll := none }
    match pollEnd bus with
    | .good v =>
      let r := (s.fumeChannel p.sensor).take true
      takePressure p.sensor v (handLink p.sensor r.2 (putFume p.sensor r.1 s))
    | .stuck | .nack | .crc =>
      let r := (s.fumeChannel p.sensor).take false
      handLink p.sensor r.2 (putFume p.sensor r.1 s)

end Sys2Proof.Machine
end

