-- ==== Sys2Proof/Machine/Results.lean ====
section
/-! DEFINITION. The ends of claims that a block judges (R102 to R104, R107): gates, edges, spans, and the open time of a
MEASURE. -/

namespace Sys2Proof.Machine

/-- A result is handed to the claimant (R107). -/
def toClaimant (c : CountUnit) (status : ResultStatus) (value : Nat) (s : State) : State :=
  match c.claim.claimant, c.claim.source with
  | .ptc, .tachChip => pumpResult .chip status value c.openedAt s
  | .ptc, .tachMain => pumpResult .main status value c.openedAt s
  | .ptc, _ => echoResult status value s
  | .exm, _ => fanResult status value s
  | .phc, _ => pyroResult status value s
  | .fxc, _ => if status = .overrange then flowWrapped s else s
  | .diag, _ => s

/-- A claim in a unit ends: its result is written, the unit goes to the head of the queue, and the result is handed to
the claimant and to DIAG where it is due (R105, R107).  A claimant that claims again does so in this event, before any
other claim (assumption log, entry 14). -/
def endUnit (u : UnitNo) (c : CountUnit) (status : ResultStatus) (value : Option Nat) (s : State) : State :=
  let s := freeAndGrant u (writeResult c.claim.source status value s)
  toDiag c.claim status value (toClaimant c status (value.getD 0) s)

/-! ### RATE (R102) -/

/-- RATE_GATE_OPEN is due: the claim is ARMED and a tick has come since its grant (R102; against R171: assumption log,
entry 33). -/
def State.gateOpenDue (s : State) (u : UnitNo) : Bool :=
  (s.unit u).any fun c => c.claim.mode.isRate && !c.counting && decide (c.armed < s.amc.ticks)

/-- RATE_GATE_OPEN. -/
def gateOpen (u : UnitNo) (s : State) : State :=
  if s.gateOpenDue u then
    putUnit u ((s.unit u).map fun c => { c with counting := true, openedAt := s.amc.ticks }) s
  else s

/-- A RATE claim's gate has reached its length. -/
def CountUnit.gateOver (c : CountUnit) (now : Nat) : Bool :=
  match c.claim.mode with
  | .rate g => c.counting && decide (c.openedAt + g ≤ now)
  | .opened | .span => false

/-- RATE_GATE_CLOSE is due. -/
def State.gateCloseDue (s : State) (u : UnitNo) : Bool := (s.unit u).any fun c => c.gateOver s.amc.ticks

/-- RATE_GATE_CLOSE. -/
def gateClose (u : UnitNo) (s : State) : State :=
  match s.unit u with
  | none => s
  | some c => if c.gateOver s.amc.ticks then endUnit u c .ok (some c.count) s else s

/-- The largest count of a unit (R99). -/
def countMax : Nat := 1048575

/-- SOURCE_EDGE: a rising edge counted by a COUNTING claim in mode RATE or OPEN (R102, R103). -/
def sourceEdge (src : Source) (s : State) : State :=
  match s.unitOf src with
  | none => s
  | some u =>
    match s.unit u with
    | none => s
    | some c =>
      if c.counting && c.claim.mode != .span then
        if c.count < countMax then putUnit u (some { c with count := c.count + 1 }) s
        else endUnit u c .overrange none s
      else s

/-! ### SPAN (R104) -/

/-- The unit that carries a SPAN claim of a source, COUNTING or not. -/
def State.spanUnit (s : State) (src : Source) (counting : Bool) : Option (UnitNo × CountUnit) :=
  match s.unitOf src with
  | none => none
  | some u =>
    match s.unit u with
    | none => none
    | some c => if c.claim.mode = .span ∧ c.counting = counting then some (u, c) else none

/-- SPAN_RISING_EDGE. -/
def spanRising (src : Source) (s : State) : State :=
  match s.spanUnit src false with
  | none => s
  | some (u, c) => putUnit u (some { c with counting := true, openedAt := s.amc.ticks }) s

/-- SPAN_FALLING_EDGE at a count of microseconds. -/
def spanFalling (src : Source) (micros : Nat) (s : State) : State :=
  match s.spanUnit src true with
  | none => s
  | some (u, c) =>
    if micros ≤ 25000 then endUnit u c .ok (some micros) s else endUnit u c .overrange none s

/-- SPAN_NO_EDGE is due once the line clock has moved by `after` since the grant. -/
def State.noEdgeDue (s : State) (src : Source) (after : Nat) : Bool :=
  (s.spanUnit src false).any fun uc => s.hasRun uc.2.armed after

/-- The SPAN claim of a source ends NO_EDGE. -/
def endNoEdge (src : Source) (s : State) : State :=
  match s.spanUnit src false with
  | none => s
  | some (u, c) => endUnit u c .noEdge none s

/-- SPAN_NO_EDGE: 30,000 µs have passed since the grant. -/
def spanNoEdge (src : Source) (s : State) : State := if s.noEdgeDue src 30 then endNoEdge src s else s

/-- SPAN_OVERRANGE is due once the line clock has moved by `after` since the rising edge. -/
def State.overDue (s : State) (src : Source) (after : Nat) : Bool :=
  (s.spanUnit src true).any fun uc => s.hasRun uc.2.openedAt after

/-- The SPAN claim of a source ends OVERRANGE. -/
def endOver (src : Source) (s : State) : State :=
  match s.spanUnit src true with
  | none => s
  | some (u, c) => endUnit u c .overrange none s

/-- SPAN_OVERRANGE: the count reaches 25,001, which is 25 or 26 ticks of the line clock after the rising edge. -/
def spanOverrange (src : Source) (s : State) : State := if s.overDue src 25 then endOver src s else s

/-! ### The open time of a MEASURE (R109) -/

/-- DIAG's own OPEN claim in a unit. -/
def State.diagOpen (s : State) : Option (UnitNo × CountUnit) :=
  allUnits.findSome? fun u =>
    ((s.unit u).filter fun c => c.claim.claimant == .diag && c.claim.mode == .opened).map fun c => (u, c)

/-- MEASURE_OPEN_TIME_EXPIRY is due. -/
def State.openExpiryDue (s : State) : Bool :=
  match s.cta.measure, s.diagOpen with
  | some m, some uc => s.hasRun uc.2.armed m.openTime
  | _, _ => false

/-- MEASURE_OPEN_TIME_EXPIRY. -/
def openExpiry (s : State) : State :=
  match s.diagOpen with
  | none => s
  | some (u, c) => if s.openExpiryDue then endOpen u c s else s

end Sys2Proof.Machine
end

