-- ==== Sys2Proof/Machine/Docket.lean ====
section
/-! DEFINITION. The docket controller's events: the scanner window and its characters, matching, the length check, and the
closing of dockets (chapter 3). -/

namespace Sys2Proof.Machine

/-! ### The map entry of a board -/

/-- The map entry of a board; boards are named by their T_lead, which no two entries share (R58, R63). -/
def State.entryOf (s : State) (board : Word) : Option MapEntry := s.cvt.map.find? fun e => e.tLead == board

/-- Change a board's map entry. -/
def changeEntry (board : Word) (f : MapEntry → MapEntry) (s : State) : State :=
  { s with cvt.map := s.cvt.map.map fun e => if e.tLead = board then f e else e }

/-- The docket's number in the first entry of a board (R50, R63). -/
def nameBoard (board : Word) (d : DocketNo) : List MapEntry → List MapEntry
  | [] => []
  | e :: rest => if e.tLead = board then { e with docket := some d } :: rest else e :: nameBoard board d rest

/-- CVT writes a docket's number into a board's map entry (R50). -/
def nameEntry (board : Word) (d : DocketNo) (s : State) : State :=
  { s with cvt.map := nameBoard board d s.cvt.map }

/-- An entry's length, once T_trail is known (R63). -/
def MapEntry.length (e : MapEntry) : Option Nat := e.tTrail.map fun t => (t - e.tLead).toNat

/-! ### The length check (R51) -/

/-- The measured length differs from the nominal one by more than the tolerance. -/
def State.lengthWrong (s : State) (d : DocketNo) (len : Nat) : Bool :=
  let b := recipeBase (s.recipeOf d)
  decide (s.u16 (b + 10) < max len (s.u16 (b + 8)) - min len (s.u16 (b + 8)))

/-- The length check of a matched board. -/
def checkLength (d : DocketNo) (len : Nat) (s : State) : State :=
  let b := recipeBase (s.recipeOf d)
  let bad := s.anyBad (span (b + 8) 4)
  let s := reportBad (span (b + 8) 4) d s
  if bad || !s.lengthWrong d len then s
  else
    claimPulse .boardLengthMismatch (BitVec.ofInt 16 ((len : Int) - (s.u16 (b + 8) : Int))) (some d)
      (addReason d .length s)

/-! ### Matching (R47 to R52) -/

/-- A docket leaves the arrival list; the order of the others is kept (R41). -/
def leaveArrival (d : DocketNo) (s : State) : State :=
  { s with dkc.arrival := s.dkc.arrival.filter fun x => x != d }

/-- The docket's first writes at a match (R50, steps 1 to 5). -/
def matchWrites (e : MapEntry) (d : DocketNo) (unverified : Bool) (s : State) : State :=
  let b := docketBase d
  let s := leaveArrival d s
  let s := putWord (b + 44) e.tLead (putWord (b + 40) e.entryTime s)
  let s :=
    match e.length with
    | some n => putHalf (b + 52) (BitVec.ofNat 16 n) s
    | none => s
  let s := putByte (b + 34) 1 s
  let s := if unverified then putNote d 0x01 s else s
  nameEntry e.tLead d (putByte b docketOnLine s)

/-- The judgement of the recipe's required profile at a match (R50). -/
def judgeProfile (d : DocketNo) (s : State) : State :=
  let bad := s.anyBad [recipeBase (s.recipeOf d) + 6]
  let s := reportBad [recipeBase (s.recipeOf d) + 6] d s
  if !bad && s.requiredProfileOf d != s.amc.activeProfile then addReason d .profile s else s

/-- A docket taken is matched to a board (R50). -/
def matchBoard (board : Word) (d : DocketNo) (unverified : Bool) (s : State) : State :=
  match s.entryOf board with
  | none => s
  | some e =>
    let s := matchWrites e d unverified s
    let s := if e.held then addReason d .entryHeld s else s
    let s := if s.amc.mode = .safe then addReason d .safeDuring s else s
    let s := judgeProfile d s
    match e.length with
    | some n => checkLength d n s
    | none => s

/-- The unannounced count becomes another; BOARD_UNANNOUNCED is raised when it rises from 0 and cleared when it returns
to 0 (R52). -/
def setUnannounced (n : Nat) (s : State) : State :=
  let old := s.dkc.unannounced
  let s := { s with dkc.unannounced := n }
  if old = 0 ∧ 0 < n then raiseLow .boardUnannounced (BitVec.ofNat 16 n) none s
  else if 0 < old ∧ n = 0 then claimClear .boardUnannounced s
  else s

/-- A board is found unannounced (R52). -/
def foundUnannounced (s : State) : State := setUnannounced (s.dkc.unannounced + 1) s

/-- A board takes a docket, or is unannounced. -/
def settleBoard (board : Word) (d : Option DocketNo) (unverified : Bool) (s : State) : State :=
  match d with
  | some d => matchBoard board d unverified s
  | none => foundUnannounced s

/-- A docket's ID length. -/
def State.idLength (s : State) (d : DocketNo) : Nat := s.u8 (docketBase d + 8)

/-- A docket's ID characters. -/
def State.idChars (s : State) (d : DocketNo) : List Byte :=
  (List.range (min 24 (s.idLength d))).map fun i => s.byteAt (docketBase d + 9 + i)

/-- The addresses a search reads of a docket (R47). -/
def State.idAddrs (s : State) (d : DocketNo) : List Nat := span (docketBase d + 8) (1 + min 24 (s.idLength d))

/-- A docket with a bad ID byte is refused in the course of a search (R48). -/
def refuseInSearch (d : DocketNo) (a : Nat) (s : State) : State :=
  let s := leaveArrival d (offerParity a s)
  let s := pinDown (s.recipeOf d) s
  let s := putByte (docketBase d) docketRefused (putByte (docketBase d + 1) 4 s)
  claimPulse .recordParity (BitVec.ofNat 16 a) (some d) (setAttn .docket s)

/-- The search for a read ID from the head towards the tail; `wild` is the first wildcard passed (R47, R48). -/
def searchId (id : List Byte) : List DocketNo → Option DocketNo → State → Option DocketNo × State
  | [], wild, s => (wild, s)
  | d :: rest, wild, s =>
    match firstBad s (s.idAddrs d) with
    | some a => searchId id rest wild (refuseInSearch d a s)
    | none =>
      if s.idLength d = id.length ∧ s.idChars d = id then (some d, s)
      else if s.idLength d = 0 then searchId id rest (match wild with
                                                       | some w => some w
                                                       | none => some d) s
      else searchId id rest wild s

/-- The docket an ORDER no-read takes: the list head (R49). -/
def State.arrivalHead (s : State) : Option DocketNo := s.dkc.arrival.head?

/-- The scanner is present in the description in force. -/
def State.scannerPresent (s : State) : Bool := s.amc.inForce.any (·.scannerPresent)

/-- The match policy in force. -/
def State.policy (s : State) : MatchPolicy := (s.amc.inForce.map (·.policy)).getD .order

/-- A window closes as a no-read (R46, R49). -/
def closeNoRead (w : ReadWindow) (s : State) : State :=
  let d :=
    match s.policy with
    | .order => s.arrivalHead
    | .strict => none
  let s := { s with dkc.window := none }
  settleBoard w.board d true (claimPulse .scannerNoRead (BitVec.ofNat 16 w.badMessages) d s)

/-- A window closes with an ID (R46, R47). -/
def closeRead (w : ReadWindow) (id : List Byte) (s : State) : State :=
  let s := { s with dkc.window := none }
  settleBoard w.board (searchId id s.dkc.arrival none s).1 false (searchId id s.dkc.arrival none s).2

/-! ### The window (R45, R46) -/

/-- SCAN_START. -/
def scanStart (board : Word) (s : State) : State :=
  if s.scannerPresent then
    let s :=
      match s.dkc.window with
      | some w => closeNoRead w s
      | none => s
    { s with dkc.window := some { board := board, badMessages := 0 }, dkc.buffer := [], dkc.bad := false }
  else s

/-- SCAN_END (R46, R49). -/
def scanEnd (board : Word) (s : State) : State :=
  if s.scannerPresent then
    match s.dkc.window with
    | some w => if w.board = board then closeNoRead w s else s
    | none => s
  else settleBoard board s.arrivalHead false s

/-! ### Characters (R43, R44) -/

/-- A message ends (R44); the buffer is cleared at the end of a good message too (assumption log, entry 31). -/
def messageEnd (w : ReadWindow) (s : State) : State :=
  let id := s.dkc.buffer
  let good := !s.dkc.bad && within id.length 1 24
  let s := { s with dkc.buffer := [], dkc.bad := false }
  if good then closeRead w id s
  else { s with dkc.window := some { w with badMessages := min 255 (w.badMessages + 1) } }

/-- DKC takes a character (R44). -/
def takeCharacter (c : RxChar) (s : State) : State :=
  match s.dkc.window with
  | none => s
  | some w =>
    if c.marked then
      let s := { s with dkc.bad := true }
      if c.data = charCr then messageEnd w s else s
    else if c.data = charCr then messageEnd w s
    else if isIdChar c.data then
      let l := if s.dkc.buffer.length < 32 then s.dkc.buffer ++ [c.data] else s.dkc.buffer
      { s with dkc.buffer := l, dkc.bad := s.dkc.bad || decide (24 < l.length) }
    else { s with dkc.bad := true }

/-- DKC takes the character the receiver holds. -/
def takeHeld (s : State) : State :=
  match s.dkc.rxHeld with
  | none => s
  | some c => takeCharacter c { s with dkc.rxHeld := none }

/-- The receiver's settings in force: disabled before the first successful START (R43). -/
def State.rxSettings (s : State) : RxSettings :=
  match s.amc.inForce with
  | some d => { present := d.scannerPresent, parity := d.scannerParity }
  | none => { present := false, parity := .none }

/-- The settings a character is judged by: those in force when it began (R43). -/
def State.rxSettingsOf (s : State) (f : RxFrame) : RxSettings :=
  ((s.rxSettings :: s.dkc.rxPast)[f.startsSince]?).getD s.rxSettings

/-- A character completes at the receiver: `prevTakenFirst` orders DKC's taking of the previous character before it, and
`takenNow` has DKC take this one at once (R43).  A character that ends later began after this one. -/
def receiveCharacter (f : RxFrame) (prevTakenFirst takenNow : Bool) (s : State) : State :=
  let set := s.rxSettingsOf f
  let s := { s with dkc.rxPast := [] }
  if set.present then
    let s := if prevTakenFirst then takeHeld s else s
    let s := { s with dkc.rxHeld := some (rxCharOf set.parity f s.dkc.rxHeld.isSome) }
    if takenNow then takeHeld s else s
  else s

/-! ### Closing dockets (R53, R54) -/

/-- A docket becomes DONE with an outcome, and its recipe's pin count falls by 1; HPX sets ATTN.DOCKET. -/
def closeDocket (d : DocketNo) (outcome : Byte) (s : State) : State :=
  let s := putByte (docketBase d) docketDone (putByte (docketBase d + 35) outcome s)
  setAttn .docket (pinDown (s.recipeOf d) s)

/-- Finalisation at the exit eye (R53). -/
def finaliseDocket (d : DocketNo) (s : State) : State :=
  let s := putByte (docketBase d + 34) 6 (putWord (docketBase d + 48) s.lineClock s)
  closeDocket d (if s.reasons d = 0 then 1 else 2) s

/-- An entry removed at the exit eye is handed to DKC (R52, R53). -/
def entryLeft (e : MapEntry) (s : State) : State :=
  match e.docket with
  | some d => finaliseDocket d s
  | none => setUnannounced (s.dkc.unannounced - 1) s

/-- A discarded entry's docket is finalised ABORTED (R54). -/
def entryLost (e : MapEntry) (s : State) : State :=
  match e.docket with
  | some d => closeDocket d 3 (putReason d .trackingLost s)
  | none => s

/-- DKC takes a discard of the conveyor map (R54). -/
def docketDiscard (entries : List MapEntry) (s : State) : State :=
  let s := setUnannounced 0 (forEach entries entryLost s)
  { s with dkc.window := none }

end Sys2Proof.Machine
end

