-- ==== Sys2Proof/Machine/Conveyor.lean ====
section
/-! DEFINITION. The conveyor tracker's events: the eyes, the conveyor map, stage events, jams and the millimetre tick
(chapter 4). -/

namespace Sys2Proof.Machine

/-! ### Jams and the discard (R73) -/

/-- The causes of a jam. -/
inductive JamCause where
  | overflow | entryBlocked | stray | late | exitBlocked
  deriving DecidableEq, Repr

/-- The detail of a jam's pulse. -/
def JamCause.detail : JamCause → Half
  | .overflow => 1
  | .entryBlocked => 2
  | .stray => 3
  | .late => 4
  | .exitBlocked => 5

/-- The discard of the whole conveyor map (R73). -/
def discardMap (s : State) : State :=
  let entries := s.cvt.map
  let s := potDiscard (preheatDiscard (fluxDiscard (docketDiscard entries s)))
  let s := followTarget { s with cvt.map := [], cvt.exitEdge := none, cvt.entryTracked := false }
  if entries.isEmpty then s else mapEmptied .jam s

/-- A jam: the BOARD_JAM pulse and the discard, in either order (R28, R73, R92). -/
def boardJam (cause : JamCause) (docket : Option DocketNo) (jam : JamOrder) (s : State) : State :=
  match jam with
  | .pulseFirst => discardMap (pulseAny .boardJam cause.detail docket s)
  | .discardFirst => pulseAny .boardJam cause.detail docket (discardMap s)

/-! ### Stage events (R67, R68) -/

/-- The stage events but EXIT_OPEN and EXIT_LATE. -/
inductive Stage where
  | scanStart | scanEnd | fluxIn | fluxOut
  | zoneIn (z : ZoneNo)
  | zoneOut (z : ZoneNo)
  | pyroIn | pyroOut | chipIn | chipOut | mainIn | mainCross | mainOut
  deriving DecidableEq, Repr

/-- Where zone k starts: P_zone1 plus the lengths of the zones before it. -/
def Description.zoneStart (d : Description) (k : Nat) : Nat := d.pZone1 + (d.zoneLen.toList.take k).sum

/-- The leading-edge events with their positions. -/
def leadingStages (d : Description) : List (Stage × Nat) :=
  [(.scanStart, d.pScan), (.scanEnd, d.pScan + d.wScan), (.fluxIn, d.pFlux)] ++
    allZones.map (fun z => (.zoneIn z, d.zoneStart z.val)) ++
    [(.pyroIn, d.pPyro), (.chipIn, d.pChip), (.mainIn, d.pMain), (.mainCross, d.pMain + d.wMain)]

/-- The trailing-edge events with their positions. -/
def trailingStages (d : Description) : List (Stage × Nat) :=
  [(.fluxOut, d.pFlux)] ++ allZones.map (fun z => (.zoneOut z, d.zoneStart (z.val + 1))) ++
    [(.pyroOut, d.pPyro), (.chipOut, d.pChip + d.wChip), (.mainOut, d.pMain + d.wMain)]

/-- The docket stage CVT writes at an event (R68). -/
def Stage.docketStage : Stage → Option Byte
  | .fluxIn => some 2
  | .zoneIn z => if z.val = 0 then some 3 else none
  | .chipIn | .mainIn => some 4
  | .scanStart | .scanEnd | .fluxOut | .zoneOut _ | .pyroIn | .pyroOut | .chipOut | .mainCross | .mainOut => none

/-- CVT writes the docket's stage, where the event has one and the entry names a docket. -/
def writeStage (docket : Option DocketNo) (stage : Option Byte) (s : State) : State :=
  match docket, stage with
  | some d, some b => putStage d b s
  | _, _ => s

/-- The recipient takes a stage event. -/
def takeStage (board : Word) (docket : Option DocketNo) (e : Stage) (s : State) : State :=
  match e with
  | .scanStart => scanStart board s
  | .scanEnd => scanEnd board s
  | .fluxIn => fluxIn board docket s
  | .fluxOut => fluxOut board s
  | .zoneIn z => zoneIn z board docket s
  | .zoneOut z => zoneOut z board s
  | .pyroIn => pyroIn board docket s
  | .pyroOut => pyroOut board s
  | .chipIn => chipIn board docket s
  | .chipOut => chipOut board s
  | .mainIn => mainIn board docket s
  | .mainCross => mainCross board s
  | .mainOut => mainOut board s

/-- A stage event is issued for a board, with its docket as it stands (R68). -/
def issueStage (board : Word) (e : Stage) (s : State) : State :=
  match s.entryOf board with
  | none => s
  | some m => takeStage board m.docket e (writeStage m.docket e.docketStage s)

/-- The events of a list that are due at a position. -/
def stagesAt (l : List (Stage × Nat)) (pos : Nat) : List Stage := (l.filter fun e => e.2 == pos).map (·.1)

/-- The stage events of an entry due at the travel as it stands.  The leading-edge events at position 0 belong to the
entry's creation (R64). -/
def entryStages (d : Description) (travel : Word) (e : MapEntry) : List Stage :=
  let lead := (travel - e.tLead).toNat
  (if lead = 0 then [] else stagesAt (leadingStages d) lead) ++
    (match e.tTrail with
     | some t => stagesAt (trailingStages d) (travel - t).toNat
     | none => [])

/-- The stage events of one entry at this tick. -/
def issueStages (d : Description) (board : Word) (s : State) : State :=
  match s.entryOf board with
  | none => s
  | some e => forEach (entryStages d s.cvt.travel e) (issueStage board) s

/-- Every stage event of this tick but EXIT_OPEN and EXIT_LATE, then the band evaluation (R67, R121); the entries from the
head to the tail (assumption log, entry 26). -/
def stagePhase (s : State) : State :=
  match s.amc.inForce with
  | none => s
  | some d => evaluateBands (forEach (s.cvt.map.map (·.tLead)) (issueStages d) s)

/-! ### The exit window (R69, R71) -/

/-- EXIT_OPEN. -/
def exitOpen (board : Word) (s : State) : State :=
  match s.entryOf board with
  | none => s
  | some e => writeStage e.docket (some 5) (changeEntry board (fun x => { x with progress := .exiting }) s)

/-- EXIT_LATE. -/
def exitLate (board : Word) (jam : JamOrder) (s : State) : State :=
  match s.entryOf board with
  | none => s
  | some e => if e.progress = .exiting then boardJam .late e.docket jam s else s

/-- EXIT_OPEN and EXIT_LATE of one entry at this tick. -/
def exitStagesOf (d : Description) (jam : JamOrder) (board : Word) (s : State) : State :=
  let lead := (s.cvt.travel - board).toNat
  if lead = d.pExit - d.jam then exitOpen board s
  else if lead = d.pExit + d.jam then exitLate board jam s
  else s

/-- EXIT_OPEN and EXIT_LATE of every entry at this tick. -/
def exitPhase (jam : JamOrder) (s : State) : State :=
  match s.amc.inForce with
  | none => s
  | some d => forEach (s.cvt.map.map (·.tLead)) (exitStagesOf d jam) s

/-! ### The entry eye (R58, R64 to R66) -/

/-- An entry is created at the tail; the leading-edge events at position 0 are issued in the creating event (R64). -/
def createEntry (held : Bool) (s : State) : State :=
  let e : MapEntry :=
    { docket := none, tLead := s.cvt.travel, tTrail := none, entryTime := s.lineClock, held := held, progress := .entered }
  let s := followTarget { s with cvt.map := s.cvt.map ++ [e], cvt.entryTracked := true }
  match s.amc.inForce with
  | none => s
  | some d => forEach (stagesAt (leadingStages d) 0) (issueStage e.tLead) s

/-- An entry-eye leading edge; `grant` is UP_GRANT immediately before it (R64, R65, R79). -/
def entryLeading (grant : Bool) (jam : JamOrder) (s : State) : State :=
  let s := { s with cvt.entryEye := true, cvt.entryTracked := false }
  if s.amc.mode = .config then s
  else if s.cvt.map.length < 12 then createEntry (!grant) s
  else boardJam .overflow none jam s

/-- The length of the newest entry reaches its docket, if it has one (R66). -/
def lengthKnown (e : MapEntry) (s : State) : State :=
  match e.docket, e.length with
  | some d, some n => checkLength d n (putField d 52 (BitVec.ofNat 16 n) s)
  | _, _ => s

/-- An entry-eye trailing edge (R58, R66); nothing where the block's entry has left the map (assumption log, entry 32). -/
def entryTrailing (s : State) : State :=
  let tracked := s.cvt.entryTracked
  let s := { s with cvt.entryEye := false, cvt.entryTracked := false }
  match s.cvt.map.getLast?, tracked with
  | some e, true =>
    let done := { e with tTrail := some s.cvt.travel }
    lengthKnown done { s with cvt.map := s.cvt.map.dropLast ++ [done] }
  | _, _ => s

/-- The sample of the entry eye; FXC takes a withdrawal of flux approach clear (R58, R130). -/
def entryPhase (blocked grant : Bool) (jam : JamOrder) (s : State) : State :=
  if blocked = s.cvt.entryEye then s
  else if blocked then purgeLoss (entryLeading grant jam s)
  else entryTrailing s

/-! ### The exit eye (R70, R72) -/

/-- An exit-eye leading edge (R70, R79). -/
def exitLeading (jam : JamOrder) (s : State) : State :=
  let s := { s with cvt.exitEye := true, cvt.exitEdge := none }
  if s.amc.mode = .config then s
  else
    match s.cvt.map with
    | e :: rest =>
      if e.progress = .exiting then
        { s with cvt.map := { e with progress := .atExit } :: rest, cvt.exitEdge := some s.cvt.travel }
      else boardJam .stray none jam s
    | [] => boardJam .stray none jam s

/-- An exit-eye trailing edge (R58, R72). That a block's member of the board stays where its OUT event has not come is
the model's choice (DESIGN CHOICE; assumption log, entry 38). -/
def exitTrailing (s : State) : State :=
  let tracked := s.cvt.exitEdge.isSome
  let s := { s with cvt.exitEye := false, cvt.exitEdge := none }
  match s.cvt.map, tracked with
  | e :: rest, true =>
    let s := followTarget (entryLeft e { s with cvt.map := rest })
    if rest.isEmpty then mapEmptied .exit s else s
  | _, _ => s

/-- The sample of the exit eye (R58). -/
def exitEyePhase (blocked : Bool) (jam : JamOrder) (s : State) : State :=
  if blocked = s.cvt.exitEye then s else if blocked then exitLeading jam s else exitTrailing s

/-! ### Blocked eyes (R66, R71) -/

/-- ENTRY_BLOCKED is due: a tracked entry-eye block has reached 701 mm, its entry still in the map (assumption log, entry
32). -/
def State.entryBlockedDue (s : State) : Bool :=
  s.cvt.entryTracked && s.cvt.entryEye &&
    s.cvt.map.getLast?.any fun e => decide (701 ≤ (s.cvt.travel - e.tLead).toNat)

/-- ENTRY_BLOCKED (R66). -/
def entryBlocked (jam : JamOrder) (s : State) : State :=
  if s.entryBlockedDue then boardJam .entryBlocked (s.cvt.map.getLast?.bind (·.docket)) jam s else s

/-- EXIT_BLOCKED is due: the travel since the claimed exit-eye edge has reached 701 mm. -/
def State.exitBlockedDue (s : State) : Bool :=
  s.cvt.exitEye && s.cvt.exitEdge.any fun t => decide (701 ≤ (s.cvt.travel - t).toNat)

/-- EXIT_BLOCKED (R71). -/
def exitBlocked (jam : JamOrder) (s : State) : State :=
  if s.exitBlockedDue then boardJam .exitBlocked (s.cvt.map.head?.bind (·.docket)) jam s else s

/-- Both blocked-eye jams, where they are due. -/
def takeBlocked (jam : JamOrder) (s : State) : State := exitBlocked jam (entryBlocked jam s)

/-! ### Pulses and ticks (R57) -/

/-- ENCODER_PULSE. -/
def encoderPulse (s : State) : State :=
  match s.amc.inForce with
  | none => s
  | some d =>
    if s.cvt.residue + 1 < d.prescaler then { s with cvt.residue := s.cvt.residue + 1 }
    else { s with cvt.residue := 0, cvt.mmTicksDue := s.cvt.mmTicksDue + 1 }

/-- The travel advances by 1; the speed interval counts the tick, and the stall timer restarts (R57, R59, R62). -/
def advanceTravel (s : State) : State :=
  { s with cvt.mmTicksDue := s.cvt.mmTicksDue - 1, cvt.travel := s.cvt.travel + 1,
           cvt.thisInterval := s.cvt.thisInterval + 1,
           cvt.stall := if 0 < s.cvt.reference then some s.amc.ticks else s.cvt.stall }

/-- One group of a tick's sub-events; the travel at which the gap stands judged goes along (R74). -/
def tickPhase (entryIn exitIn : Bool) (jam : JamOrder) (ph : TickPhase) (gs : Word × State) : Word × State :=
  match ph with
  | .entryEye => (gs.1, entryPhase entryIn (gs.2.upGrantAt gs.1) jam gs.2)
  | .exitEye => (gs.1, exitEyePhase exitIn jam gs.2)
  | .stages => (gs.1, stagePhase gs.2)
  | .exitStages => (gs.1, exitPhase jam gs.2)
  | .gap => (gs.2.cvt.travel, gs.2)

/-- The groups in the sender's order, then those it leaves out. -/
def fullOrder (order : List TickPhase) : List TickPhase :=
  order ++ [TickPhase.entryEye, .exitEye, .stages, .exitStages, .gap].filter fun p => !order.contains p

/-- MM_TICK's sub-events, in an order. -/
def runPhases (entryIn exitIn : Bool) (order : List TickPhase) (jam : JamOrder) (s : State) : State :=
  ((fullOrder order).foldl (fun gs p => tickPhase entryIn exitIn jam p gs) (s.cvt.travel - 1, s)).2

/-- Events that need no timer and stand due: the purge's spray and a changeover's completion (R29, R129). -/
def takeSettled (s : State) : State := changeoverComplete (sprayStart s)

/-- MM_TICK, where the prescaler has made one (R57); what stands due from before is taken first (assumption log,
entry 5).  A blocked-eye jam that this tick makes due is taken after it, by its own row (assumption log, entry 26). -/
def mmTick (entryIn exitIn : Bool) (order : List TickPhase) (jam : JamOrder) (s : State) : State :=
  if s.cvt.mmTicksDue = 0 then s
  else runPhases entryIn exitIn order jam (advanceTravel (takeSettled (takeBlocked jam s)))

end Sys2Proof.Machine
end

