-- ==== Sys2Proof/Machine/Reset.lean ====
section
/-! DEFINITION. Power-on and the host-reset sweep (R18, R19, R55, R78, R98, R110, R113, R115, R128, R131, R146, R167,
R173).  The sweep is taken whole at the write that starts it, its parts in the order of R19 (assumption log, entry 8). -/

namespace Sys2Proof.Machine

/-- HPX's own part of the sweep (R19, step 1). -/
def sweepHpx (s : State) : State :=
  { s with hpx.slot := none, hpx.refusal := .empty, hpx.parityAddr := 0xFFFF, hpx.parityInvert := false,
           hpx.handed := [] }

/-- A request cell that is TAKEN ends RESET, its replies as they stand (R19, step 2; assumption log, entry 30). -/
def sweepCell (c : CellNo) (s : State) : State := if s.cellState c = cellTaken then endCell c .reset s else s

/-- A docket in the sweep (R55). -/
def sweepDocket (d : DocketNo) (s : State) : State :=
  let b := docketBase d
  if s.docketState d = docketAnnounced then setAttn .docket (putByte b docketRefused (putByte (b + 1) 5 s))
  else if s.docketState d = docketOnLine then
    let s := putByte (b + 35) 3 (putReason d .reset s)
    setAttn .docket (putByte b docketDone (putWord (b + 48) 0xFFFFFFFF s))
  else s

/-- DKC's part (R55). -/
def sweepDkc (s : State) : State :=
  let s := forEach allDockets sweepDocket s
  let s := forEach allRecipes (fun r => putByte (recipeBase r + 2) 0) s
  { s with dkc.arrival := [], dkc.unannounced := 0, dkc.window := none, dkc.buffer := [], dkc.bad := false,
           dkc.rxHeld := none }

/-- AMC's part (R88, R98): the writes to the alarm table set ATTN.ALARM and the mode change ATTN.MODE. -/
def sweepAmc (s : State) : State :=
  setMode .config <| setAttn .alarm
    { s with amc.alarms := Vector.replicate 32 AlarmEntry.quietEntry, amc.chainOpen := false, amc.chainCount := 0,
             amc.finish := none, amc.changeover := none, amc.activeProfile := s.initialProfileByte }

/-- CVT's part (R78). -/
def sweepCvt (s : State) : State :=
  { s with cvt.reference := 0, cvt.target := 0, cvt.drive := .stopped, cvt.map := [], cvt.stall := none,
           cvt.downstream := none, cvt.entryTracked := false, cvt.exitEdge := none }

/-- CTA's part (R110). -/
def sweepCta (s : State) : State :=
  { s with cta.units := Vector.replicate 4 none, cta.queue := [], cta.measure := none }

/-- FXC's part (R131); the switches keep their levels and counts (R128). -/
def sweepFxc (s : State) : State := { closeValves s with fxc.board := none, fxc.purge := none }

/-- A zone in PHC's part (R146). -/
def Zone.swept (r : Zone) : Zone :=
  { r.forcedOff with state := .off, settle := none, occupants := [], sensorFaulted := false, overtemp := false }

/-- PHC's part (R146). -/
def sweepPhc (s : State) : State := { s with phc.zones := s.phc.zones.map Zone.swept, phc.pyro := none }

/-- A pump in PTC's part (R153, R154, R167). -/
def Pump.swept : Pump := .fresh

/-- PTC's part (R167). -/
def sweepPtc (s : State) : State :=
  { s with ptc.pot := { s.ptc.pot.forcedOff with state := .off, settle := none, faultA := false, faultB := false,
                                                 disagreement := false, overtemp := false }
           ptc.chip := .swept, ptc.main := .swept, ptc.mainLeftRamping := none, ptc.chipList := [], ptc.mainList := []
           ptc.feeder := .idle, ptc.feedTimer := 0, ptc.calibrate := none, ptc.feed := none }

/-- EXM's part (R168, R173). -/
def sweepExm (s : State) : State :=
  let st : ExtractState := if s.exm.state = .starting then .starting else if s.exm.fanOn then .running else .off
  { conditionsAbsent (startRunOn s) with exm.state := st, exm.grace := .stopped, exm.linkDuct := false,
                                         exm.linkFilter := false }

/-- FLK's part: a poll in progress is ended and counts as nothing (R115). -/
def sweepFlk (s : State) : State := { s with flk.poll := none }

/-- TLK hands PHC or PTC a fault notice for a faulted channel at the end of its part (R113). -/
def noticeChannel (c : Fin 8) (s : State) : State :=
  let ch := s.tlk.channels[c]
  if ch.faulted then
    if h : c.val < 6 then zoneFaultNotice ⟨c.val, h⟩ ch.faultDetail s else potNotice (c == chanPotA) (.fault ch.faultDetail) s
  else s

/-- Every block's own part of the sweep. -/
def sweepBlocks (s : State) : State :=
  sweepFlk (sweepExm (sweepPtc (sweepPhc (sweepFxc (sweepCta (sweepCvt (sweepAmc (sweepDkc
    (forEach allCells sweepCell (sweepHpx s))))))))))

/-- A zone's overtemperature judged afresh from the channel's last good value (R146). -/
def rejudgeZone (z : ZoneNo) (s : State) : State :=
  match (s.tlk.channels[(z.castLE (by decide : 6 ≤ 8) : Fin 8)]).lastGood with
  | some t => judgeZoneHeat z t.toInt s
  | none => s

/-- ZONE_OVERTEMP after the sweep, naming the lowest zone (R146). -/
def rejudgeOvertemp (s : State) : State :=
  match allZones.find? fun z => (s.zone z).overtemp with
  | some z => judgeOvertemp z s
  | none => s

/-- PTC's conditions after AMC's part (R147, R167); the disagreement from the last good values (assumption log, entry 34). -/
def rejudgePot (s : State) : State :=
  let s := judgeDisagreement s
  let s :=
    match s.potB with
    | some b => judgePotHeat b.toInt s
    | none => s
  judgeLevelAlarms (judgePotOvertemp (judgePotSensor s))

/-- FLK's notices, DUCT's first (assumption log, entry 19), and EXM's new TACH_FAN claim after AMC's part (R115, R173). -/
def rejudgeExm (s : State) : State :=
  let s := if s.flk.duct.fault then linkNotice .duct true s else s
  let s := if s.flk.filter.fault then linkNotice .filter true s else s
  if s.exm.fanOn then placeFan s else s

/-- What the blocks judge afresh at the end of their parts of the sweep. -/
def sweepNotices (s : State) : State :=
  rejudgeExm (rejudgePot (rejudgeOvertemp (forEach allZones rejudgeZone
    (forEach (List.finRange 8) noticeChannel s))))

/-- The host-reset sweep; it goes on until HOST_RESET_SWEEP_END (R19). -/
def hostReset (s : State) : State := { sweepNotices (sweepBlocks s) with hpx.phase := .sweeping }

/-- POWER_ON (R18): every block at its power-on value; the neighbours' levels, the model's counter and the queue stand. -/
def powerOnReset (s : State) : State := .poweredOn s.cvt.upOffer s.cvt.dnAccept s.free s.pending

/-- POWER_ON_INIT_END (R18). -/
def initEnd (s : State) : State :=
  if s.hpx.phase = .initialising then setAttn .mode { s with hpx.phase := .running } else s

/-- HOST_RESET_SWEEP_END: ATTN becomes MODE alone (R19, step 4). -/
def sweepEnd (s : State) : State :=
  if s.hpx.phase = .sweeping then { s with hpx.phase := .running, hpx.attn := AttnClass.mode.bit } else s

end Sys2Proof.Machine
end

