-- ==== Sys2Proof/WellFormed.lean ====
section
/-! DEFINITION. When a command is one that can be sent: the row it names fits its operands. -/

namespace Sys2Proof

/-- The address names a halfword: "no access can be misaligned" (section 1.1). -/
def Instr.evenAddr (a : Half) : Bool := a.toNat % 2 == 0

/-- The address of one of the 72 watched words (section 1.2). -/
def Instr.isWatchedWord (a : Half) : Bool :=
  let n := a.toNat
  (0x300 ≤ n && n < 0x400 && n % 32 == 0) || (0x600 ≤ n && n < 0x2600 && n % 128 == 0)

/-- The address of one of the eight registers (R12). -/
def Instr.isRegister (a : Half) : Bool := 0xFF00 ≤ a.toNat && a.toNat ≤ 0xFF0F

/-- A `mmTick` order names each group of sub-events once. -/
def Instr.isTickOrder (o : List TickPhase) : Bool :=
  o.length == 5 && decide (TickPhase.entryEye ∈ o) && decide (TickPhase.exitEye ∈ o) &&
    decide (TickPhase.stages ∈ o) && decide (TickPhase.exitStages ∈ o) && decide (TickPhase.gap ∈ o)

/-- Well-formedness of a command.  A host access names an even address; HOST_WRITE is a plain write (no register, no
state byte enabled); WATCHED_WRITE enables a state byte; CONTROL_RESET writes 1 to CONTROL.RESET and PARITY_INVERT does
not; a SPAN_FALLING_EDGE comes at a count of 25,000 or less (R104). -/
def Instr.wf : Instr → Bool
  | .hostRead a _ => evenAddr a
  | .hostWrite a en _ => evenAddr a && !isRegister a && !(isWatchedWord a && en.lo)
  | .watchedWrite a en _ => isWatchedWord a && en.lo
  | .controlReset en d => en.lo && d.getLsbD 0
  | .parityInvert en d => !(en.lo && d.getLsbD 0)
  | .mmTick _ _ o _ => isTickOrder o
  | .spanFallingEdge _ us => decide (us ≤ 25000)
  | .powerOn | .powerOnInitEnd | .docketStateRuling | .recipeStateRuling | .requestCellRuling
  | .pendingSlotExpiry | .hostResetSweepEnd | .attnWrite _ _ | .attnMaskWrite _ _
  | .refusalReasonWrite _ _ | .parityAddrWrite _ _ | .registerWriteDiscarded _ _ _
  | .start _ | .produce _ | .finish _ | .safeEnter _ | .safeLeave _ | .reconfigure _ | .profileSelect _
  | .changeoverComplete | .changeoverTimeout | .ackAlarm _ | .measure _ | .measureOpenTimeExpiry
  | .fluxPurge _ | .purgeSprayStart | .purgeSprayExpiry | .levelCalibrate _ | .calibrateQuietExpiry
  | .feedSolder _ | .feedRequestTimerExpiry | .cancel _ | .safetyChainDebounce | .encoderPulse
  | .entryBlocked _ | .exitBlocked _ | .scannerCharacter _ _ _ | .valvePeriodStart | .valveOpenTimeEnd
  | .pressureSwitchDebounce | .tankSwitchDebounce | .pyroClaimPlacement | .conveyorSpeedMeasurement
  | .driveRampStep | .conveyorStall | .dnAcceptChange _ | .downstreamTimerExpiry | .upOfferChange _
  | .rateGateOpen _ | .rateGateClose _ | .sourceEdge _ | .spanRisingEdge _ | .spanNoEdge _ | .spanOverrange _
  | .thermoRoundStart | .thermoFrame _ _ _ _ | .fumePollStart | .fumePollEnd _ | .zoneHeaterPeriodStart
  | .zoneHeaterOnTimeEnd _ | .zoneSettleExpiry _ | .potHeaterPeriodStart | .potHeaterOnTimeEnd | .potSettleExpiry
  | .pumpRampStep | .pumpSpeedStale _ | .echoClaimPlacement | .feedTimeout | .extractSuppressionExpiry
  | .extractConfirmationExpiry _ | .fanStallExpiry | .fanClearExpiry | .graceExpiry | .runOnExpiry
  | .lineClockTick _ => true

end Sys2Proof
end

