-- ==== Sys2Proof/Machine/HostPort.lean ====
section
/-! DEFINITION. Host accesses (R1 to R12): decoding, protection, stores, the watched-write path and the registers. -/

namespace Sys2Proof.Machine

/-- The answer to a host access. -/
def answer (t : Termination) (data : Option Half) (s : State) : State :=
  { s with hpx.answer := some { term := t, data := data } }

/-- An access during initialisation or a sweep: RETRY and no effect (R1). -/
def answerRetry (s : State) : State := answer .retry none s

/-! ### Registers (R12) -/

/-- The registers by address (section 11.2). -/
inductive Register where
  | ident | control | attn | attnMask | refusalAddr | refusalData | refusalReason | parityAddr
  deriving DecidableEq, Repr

/-- The register at a halfword address, if it is one. -/
def registerAt (a : Nat) : Option Register :=
  match a with
  | 0xFF00 => some .ident
  | 0xFF02 => some .control
  | 0xFF04 => some .attn
  | 0xFF06 => some .attnMask
  | 0xFF08 => some .refusalAddr
  | 0xFF0A => some .refusalData
  | 0xFF0C => some .refusalReason
  | 0xFF0E => some .parityAddr
  | _ => none

/-- A register's address. -/
def Register.addr : Register → Half
  | .ident => 0xFF00
  | .control => 0xFF02
  | .attn => 0xFF04
  | .attnMask => 0xFF06
  | .refusalAddr => 0xFF08
  | .refusalData => 0xFF0A
  | .refusalReason => 0xFF0C
  | .parityAddr => 0xFF0E

/-- What a register reads. -/
def State.register (s : State) (r : Register) : Half :=
  match r with
  | .ident => 0x4610
  | .control => if s.hpx.parityInvert then 0x0002 else 0x0000
  | .attn => s.hpx.attn.zeroExtend 16
  | .attnMask => s.hpx.attnMask.zeroExtend 16
  | .refusalAddr => s.hpx.refusal.addr
  | .refusalData => s.hpx.refusal.data
  | .refusalReason => s.hpx.refusal.reason.code
  | .parityAddr => s.hpx.parityAddr

/-- A write to CONTROL: PARITY_INVERT is stored, then RESET starts the sweep (R3, R19). -/
def writeControl (data : Half) (s : State) : State :=
  let s := { s with hpx.parityInvert := data.getLsbD 1 }
  if data.getLsbD 0 then hostReset s else s

/-- A register write acts on the enabled bytes only (R12).  The fields of CONTROL, ATTN and ATTN_MASK lie in the low
byte; a write of any value to REFUSAL_REASON or PARITY_ADDR acts with either byte (assumption log, entry 9). -/
def writeRegister (r : Register) (en : Enables) (data : Half) (s : State) : State :=
  match r with
  | .control => if en.lo then writeControl data s else s
  | .attn => if en.lo then { s with hpx.attn := s.hpx.attn &&& ~~~(data.extractLsb' 0 6) } else s
  | .attnMask => if en.lo then { s with hpx.attnMask := data.extractLsb' 0 6 } else s
  | .refusalReason => if en.lo || en.hi then { s with hpx.refusal := .empty } else s
  | .parityAddr => if en.lo || en.hi then { s with hpx.parityAddr := 0xFFFF } else s
  | .ident | .refusalAddr | .refusalData => s

/-! ### Protection (R2, R5, R6) -/

/-- The reason that refuses a host write to one byte of exchange memory, or none; the state byte of a watched word is
left to the watched-write path. -/
def byteRefusal (s : State) (b : Nat) : RefusalReason :=
  if b < 0x300 then .protectedBytes
  else if b < 0x400 then
    let off := b % 32
    if off = 0 then .none
    else if off = 1 ∨ 16 ≤ off then .protectedBytes
    else if s.byteAt (b - off) = cellIdle ∨ s.byteAt (b - off) = cellDone then .none
    else .locked
  else if b < 0x500 then if s.amc.mode = .config then .none else .notConfig
  else if b < 0x600 then
    let n := (b - 0x500) / 64
    if n = s.amc.activeProfile.toNat ∨ s.amc.changeover.any (fun c => c.target.val == n) then .profileInUse else .none
  else if b < 0xE00 then
    let off := b % 128
    if off = 0 then .none
    else if off = 1 ∨ off = 2 then .protectedBytes
    else if s.byteAt (b - off) = recipeEmpty then .none
    else .locked
  else if b < 0x2600 then
    let off := (b - 0xE00) % 128
    if off = 0 then .none
    else if off = 1 ∨ 34 ≤ off then .protectedBytes
    else if s.byteAt (b - off) = docketFree then .none
    else .locked
  else .none

/-- The bytes a host write enables. -/
def enabledBytes (a : Nat) (en : Enables) : List Nat :=
  (if en.lo then [a] else []) ++ (if en.hi then [a + 1] else [])

/-- The reason that refuses a plain host write to exchange memory: the first, in the order of R5, that applies to any
enabled byte. -/
def writeRefusal (s : State) (a : Nat) (en : Enables) : RefusalReason :=
  let reasons := (enabledBytes a en).map (byteRefusal s)
  if RefusalReason.protectedBytes ∈ reasons then .protectedBytes
  else if RefusalReason.notConfig ∈ reasons then .notConfig
  else if RefusalReason.profileInUse ∈ reasons then .profileInUse
  else if RefusalReason.locked ∈ reasons then .locked
  else .none

/-- A refused host write: offered to the refusal record, answered FAULT (R5, R7). -/
def refuseWrite (a : Half) (data : Half) (r : RefusalReason) (s : State) : State :=
  answer .fault none (offerRefusal a data r s)

/-- The address of the machine description's initial profile field. -/
def initialProfileAddr : Nat := 0x456

/-- One byte stored by a host write, with the parity CONTROL chooses (R3); in CONFIG the active profile index follows
the initial profile field (R26). -/
def hostStoreByte (b : Nat) (v : Byte) (s : State) : State :=
  let s := { s with xm := s.xm.setByte b v s.hpx.parityInvert }
  if b = initialProfileAddr ∧ s.amc.mode = .config then { s with amc.activeProfile := v } else s

/-- The enabled bytes stored. -/
def hostStore (a : Nat) (en : Enables) (data : Half) (s : State) : State :=
  let s := if en.lo then hostStoreByte a (loByte data) s else s
  if en.hi then hostStoreByte (a + 1) (hiByte data) s else s

/-- A plain write to exchange memory. -/
def plainWrite (a : Half) (en : Enables) (data : Half) (s : State) : State :=
  match writeRefusal s a.toNat en with
  | .none => answer .ready none (hostStore a.toNat en data s)
  | r => refuseWrite a data r s

/-! ### Watched writes (R8, R9, R11) -/

/-- The outcome of a slot found by an identical write. -/
def slotOutcome (accepted : Bool) : Termination := if accepted then .ready else .fault

/-- A watched write. -/
def watchedPath (a : Half) (en : Enables) (data : Half) (s : State) : State :=
  let occupied := s.hpx.refusal.reason != .none
  match s.hpx.slot with
  | some w =>
    if w.addr = a ∧ w.en = en ∧ w.data = data then
      match w.progress with
      | .latched => answer .retry none s
      | .ruled accepted _ => answer (slotOutcome accepted) none { s with hpx.slot := none }
    else if occupied then answer .fault none s
    else answer .retry none s
  | none =>
    if occupied then answer .fault none s
    else answer .retry none { s with hpx.slot := some { addr := a, en := en, data := data, progress := .latched } }

/-! ### Accesses (R1) -/

/-- A host write to any address. -/
def hostWriteAt (a : Half) (en : Enables) (data : Half) (s : State) : State :=
  if s.hpx.phase ≠ .running then answerRetry s
  else if !en.lo && !en.hi then answer .ready none s
  else if a.toNat < 0x4000 then
    if Instr.isWatchedWord a && en.lo then watchedPath a en data s else plainWrite a en data s
  else
    match registerAt a.toNat with
    | some r => answer .ready none (writeRegister r en data s)
    | none => refuseWrite a data .unmapped s

/-- A host read of exchange memory: the halfword, with parity checked on the enabled bytes (R4). -/
def readXm (a : Nat) (en : Enables) (s : State) : State :=
  match (enabledBytes a en).find? s.xmBad with
  | some b => answer .fault (some (s.xmHalf a)) (offerParity b s)
  | none => answer .ready (some (s.xmHalf a)) s

/-- A host read of any address. -/
def hostReadAt (a : Half) (en : Enables) (s : State) : State :=
  if s.hpx.phase ≠ .running then answerRetry s
  else if !en.lo && !en.hi then answer .ready (some 0) s
  else if a.toNat < 0x4000 then readXm a.toNat en s
  else
    match registerAt a.toNat with
    | some r => answer .ready (some (s.register r)) s
    | none => answer .fault (some 0) s

/-! ### The slot's expiry (R10) -/

/-- PENDING_SLOT_EXPIRY is due: the second tick after the ruling has come. -/
def State.slotDue (s : State) : Bool :=
  match s.hpx.slot with
  | some { progress := .ruled _ t, .. } => decide (t + 2 ≤ s.amc.ticks)
  | some { progress := .latched, .. } | none => false

/-- PENDING_SLOT_EXPIRY. -/
def slotExpiry (s : State) : State := if s.slotDue then { s with hpx.slot := none } else s

end Sys2Proof.Machine
end

