-- ==== Sys2Proof/Machine/Rulings.lean ====
section
/-! DEFINITION. The owners' rulings on the latched watched write: docket states (R36 to R40), recipe states (R21 to R23) and
request cells with the dispatch of an accepted POST (R15, R16). -/

namespace Sys2Proof.Machine

/-- The record whose state byte a watched word holds (section 1.2). -/
inductive Watched where
  | docket (d : DocketNo)
  | recipe (r : RecipeNo)
  | cell (c : CellNo)
  deriving DecidableEq, Repr

/-- The record of a watched word's address. -/
def watchedAt (a : Nat) : Option Watched :=
  if 0x300 ≤ a ∧ a < 0x400 then some (.cell (Fin.ofNat 8 ((a - 0x300) / 32)))
  else if 0x600 ≤ a ∧ a < 0xE00 then some (.recipe (Fin.ofNat 16 ((a - 0x600) / 128)))
  else if 0xE00 ≤ a ∧ a < 0x2600 then some (.docket (Fin.ofNat 48 ((a - 0xE00) / 128)))
  else none

/-- The latched write that waits for its owner: the record and the state value written. -/
def State.waiting (s : State) : Option (Watched × Byte) :=
  match s.hpx.slot with
  | some { addr := a, data := d, progress := .latched, .. } => (watchedAt a.toNat).map fun w => (w, loByte d)
  | some { progress := .ruled _ _, .. } | none => none

/-! ### Dockets -/

/-- Why an announcement is refused (R37). -/
inductive DocketRefusal where
  | recipeNotReady | badRecipeIndex | badId | parity
  deriving DecidableEq, Repr

/-- A refusal reason's code (section 11.9). -/
def DocketRefusal.code : DocketRefusal → Byte
  | .recipeNotReady => 1
  | .badRecipeIndex => 2
  | .badId => 3
  | .parity => 4

/-- The bytes read in judging an announcement: recipe index, host flags, ID length, and the ID's characters where the
length is 24 or less (R37). -/
def announceAddrs (s : State) (d : DocketNo) : List Nat :=
  let b := docketBase d
  [b + 2, b + 3, b + 8] ++ (if s.idLength d ≤ 24 then span (b + 9) (s.idLength d) else [])

/-- The ID is well formed. -/
def State.idOk (s : State) (d : DocketNo) : Bool := decide (s.idLength d ≤ 24) && (s.idChars d).all isIdChar

/-- The checks of R37 after PARITY. -/
def announceRefusal (s : State) (d : DocketNo) : Option DocketRefusal :=
  if 15 < s.u8 (docketBase d + 2) then some .badRecipeIndex
  else if s.byteAt (recipeBase (s.recipeOf d)) ≠ recipeReady then some .recipeNotReady
  else if !s.idOk d then some .badId
  else none

/-- An accepted announcement's writes (R37). -/
def acceptAnnounced (d : DocketNo) (s : State) : State :=
  let b := docketBase d
  let s := fillBytes (b + 40) 0xFF 34 s
  let s := putByte (b + 34) 0 (putByte (b + 38) 0 (putHalf (b + 36) 0 (putByte (b + 35) 0 s)))
  let s := pinUp (s.recipeOf d) (putByte (b + 1) 0 s)
  putByte b docketAnnounced { s with dkc.arrival := s.dkc.arrival ++ [d] }

/-- A refused announcement (R38). -/
def refuseAnnounced (d : DocketNo) (why : DocketRefusal) (s : State) : State :=
  setAttn .docket (putByte (docketBase d) docketRefused (putByte (docketBase d + 1) why.code s))

/-- The judgement of an announcement (R37). -/
def announce (d : DocketNo) (s : State) : State :=
  match firstBad s (announceAddrs s d) with
  | some a => refuseAnnounced d .parity (offerParity a s)
  | none =>
    match announceRefusal s d with
    | some why => refuseAnnounced d why s
    | none => acceptAnnounced d s

/-- Refusal reason NONE and state FREE (R39, R40). -/
def freeDocket (d : DocketNo) (s : State) : State := putByte (docketBase d) docketFree (putByte (docketBase d + 1) 0 s)

/-- A withdrawal (R39). -/
def withdrawDocket (d : DocketNo) (s : State) : State := freeDocket d (pinDown (s.recipeOf d) (leaveArrival d s))

/-- DKC's ruling on a docket's state byte (R36). -/
def ruleDocket (d : DocketNo) (v : Byte) (s : State) : State :=
  let st := s.docketState d
  if st = docketFree ∧ v = docketAnnounced then ruleAccepted (announce d s)
  else if st = docketFree ∧ v = docketFree then ruleAccepted s
  else if st = docketAnnounced ∧ v = docketAnnounced then ruleAccepted s
  else if st = docketAnnounced ∧ v = docketFree then ruleAccepted (withdrawDocket d s)
  else if (st = docketDone ∨ st = docketRefused) ∧ v = docketFree then ruleAccepted (freeDocket d s)
  else ruleRefused .transition s

/-- DOCKET_STATE_RULING. -/
def docketRuling (s : State) : State :=
  match s.waiting with
  | some (.docket d, v) => ruleDocket d v s
  | some (.recipe _, _) | some (.cell _, _) | none => s

/-! ### Recipes -/

/-- The validation of a recipe with its writes (R22): the reason, then the state. -/
def handOverRecipe (r : RecipeNo) (s : State) : State :=
  let why := (validateRecipe r s).1
  let s := (validateRecipe r s).2
  putByte (recipeBase r) (if why = .none then recipeReady else recipeInvalid) (putByte (recipeBase r + 1) why.code s)

/-- A recipe becomes EMPTY: reason NONE, then the state (R21). -/
def emptyRecipe (r : RecipeNo) (s : State) : State :=
  putByte (recipeBase r) recipeEmpty (putByte (recipeBase r + 1) RecipeReason.none.code s)

/-- DKC's ruling on a recipe's state byte (R21). -/
def ruleRecipe (r : RecipeNo) (v : Byte) (s : State) : State :=
  let st := s.byteAt (recipeBase r)
  if st = recipeEmpty ∧ v = recipeEmpty then ruleAccepted s
  else if st = recipeEmpty ∧ v = recipeReady then ruleAccepted (handOverRecipe r s)
  else if st = recipeReady ∧ v = recipeEmpty then
    if s.pins r = 0 then ruleAccepted (emptyRecipe r s) else ruleRefused .pinned s
  else if st = recipeReady ∧ v = recipeReady then ruleAccepted s
  else if st = recipeInvalid ∧ v = recipeEmpty then ruleAccepted (emptyRecipe r s)
  else ruleRefused .transition s

/-- RECIPE_STATE_RULING. -/
def recipeRuling (s : State) : State :=
  match s.waiting with
  | some (.recipe r, v) => ruleRecipe r v s
  | some (.docket _, _) | some (.cell _, _) | none => s

/-! ### Request cells -/

/-- A cell's code is that of a long request of which another cell is TAKEN (R16). -/
def State.longRunning (s : State) (c : CellNo) : Bool :=
  match Request.ofCode (s.cellCode c) with
  | some r => r.isLong && s.otherTaken c (s.cellCode c)
  | none => false

/-- A posted request is taken and handed to its owner: the result and the replies absent, then the state TAKEN (R16). -/
def takeRequest (c : CellNo) (s : State) : State :=
  let s := fillBytes (cellBase c + 16) 0xFF 16 (putByte (cellBase c + 1) 0xFF s)
  let s := putByte (cellBase c) cellTaken s
  { s with hpx.handed := s.hpx.handed ++ [c] }

/-- The code bytes of the other cells that are TAKEN. -/
def State.takenCodeAddrs (s : State) (c : CellNo) : List Nat :=
  (allCells.filter fun d => d != c && s.cellState d == cellTaken).map fun d => cellBase d + 2

/-- The bytes the dispatcher reads in judging a cell's code: the code, and for a long code the codes of the other TAKEN
cells (R4, R16; assumption log, entry 12). -/
def State.dispatchAddrs (s : State) (c : CellNo) : List Nat :=
  (cellBase c + 2) :: if (Request.ofCode (s.cellCode c)).any Request.isLong then s.takenCodeAddrs c else []

/-- The dispatch of an accepted POST (R16). -/
def dispatch (c : CellNo) (s : State) : State :=
  let s := readChecked (s.dispatchAddrs c) s
  if (Request.ofCode (s.cellCode c)).isNone then endCell c .unknownCode s
  else if s.longRunning c then endCell c .busy s
  else takeRequest c s

/-- The dispatcher's ruling on a cell's state byte (R15). -/
def ruleCell (c : CellNo) (v : Byte) (s : State) : State :=
  let st := s.cellState c
  if (st = cellIdle ∨ st = cellDone) ∧ v = cellPost then ruleAccepted (dispatch c s)
  else if st = cellIdle ∧ v = cellIdle then ruleAccepted s
  else if st = cellDone ∧ v = cellIdle then ruleAccepted (putByte (cellBase c) cellIdle s)
  else ruleRefused .transition s

/-- REQUEST_CELL_RULING. -/
def requestCellRuling (s : State) : State :=
  match s.waiting with
  | some (.cell c, v) => ruleCell c v s
  | some (.docket _, _) | some (.recipe _, _) | none => s

end Sys2Proof.Machine
end

