-- ==== Sys2Proof/Machine/Requests.lean ====
section
/-! DEFINITION. The owners' rulings on the requests handed to them (R17, R27, R84, R90 to R96, R109, R129, R163, R165). -/

namespace Sys2Proof.Machine

/-! ### START (R90) -/

/-- The failing field of the machine description: range and parity, then the geometry order (R32, R33). -/
def descriptionFailure (s : State) : Option FieldFailure :=
  match judgeFields s descBase (descChecks s) with
  | some f => some f
  | none => (geometryFailure s).map fun off => { off := off, badByte := none }

/-- An INVALID of START: the failing field's offset and the record it lies in. -/
def refuseRecord (c : CellNo) (off : Nat) (record : Half) (s : State) : State :=
  endCell c .invalid (putReply c 1 record (putReply c 0 (BitVec.ofNat 16 off) s))

/-- A NOT_READY for SAFE-class alarms: the lowest id among them and their number (R90, R95). -/
def refuseSafe (c : CellNo) (s : State) : State :=
  let low := ((s.safeOut.head?).map fun a => a.id.val).getD 0
  endCell c .notReady (putReply c 1 (BitVec.ofNat 16 s.safeOut.length) (putReply c 0 (BitVec.ofNat 16 low) s))

/-- The stored description and its initial profile come into force; CVT's residue is cleared (R31, R25, R77).  A
character under way on the scanner line keeps the receiver's settings as they were (R43). -/
def takeDescription (s : State) : State :=
  let d := storedDescription s
  { s with amc.inForce := some d, amc.activeProfile := s.initialProfileByte,
           amc.profile := some (storedProfile s d.initialProfile), cvt.residue := 0,
           dkc.rxPast := s.rxSettings :: s.dkc.rxPast }

/-- PTC at a START: the working level reference is loaded and the level judged from a fresh average (R159, R166). -/
def levelStart (s : State) : State :=
  levelChanged
    { s with ptc.workingRef := s.amc.inForce.map (·.levelRef), ptc.distances := [], ptc.echoFailures := 0,
             ptc.echoLost := false }

/-- An accepted START (R90). -/
def acceptStart (c : CellNo) (s : State) : State :=
  let s := levelStart (flkStart (beginPeriod (takeDescription s)))
  let s := fanStart (changeMode .standby s)
  endCell c .ok (putReply c 0 (s.amc.activeProfile.zeroExtend 16) s)

/-- AMC's judgement of START. -/
def startRuling (c : CellNo) (s : State) : State :=
  if s.amc.mode ≠ .config then endCell c .mode s
  else
    match descriptionFailure s with
    | some f => refuseRecord c f.off 0 (offerFailure (some f) s)
    | none =>
      let f := profileFailure s s.initialProfileByte.toNat
      let s := offerProfileReads f s
      match f with
      | some f => refuseRecord c f.off 1 s
      | none => if s.classOut .safe then refuseSafe c s else acceptStart c s

/-! ### PRODUCE, FINISH and the other mode requests -/

/-- A set of failed conditions, bit 0 first. -/
def failedBits : List Bool → Nat
  | [] => 0
  | b :: rest => b.toNat + 2 * failedBits rest

/-- PRODUCE's failed conditions (R91). -/
def produceFailures (s : State) : Half :=
  BitVec.ofNat 16 (failedBits
    [!s.zonesReady, s.ptc.pot.state != .ready, s.exm.state != .running,
      s.classOut .hold || s.classOut .stopFlux || s.classOut .safe, s.calibrating])

/-- AMC's judgement of PRODUCE (R91). -/
def produceRuling (c : CellNo) (s : State) : State :=
  if s.amc.mode ≠ .standby then endCell c .mode s
  else if produceFailures s ≠ 0 then endCell c .notReady (putReply c 0 (produceFailures s) s)
  else endCell c .ok (putReply c 0 0 (changeMode .production s))

/-- AMC's judgement of FINISH (R92). That reply 0 stays absent at the end MODE is the model's choice (DESIGN CHOICE;
assumption log, entry 40). -/
def finishRuling (c : CellNo) (s : State) : State :=
  if s.amc.mode ≠ .production then endCell c .mode s
  else if s.cvt.map.isEmpty then endCell c .ok (putReply c 0 0 (changeMode .standby s))
  else changeMode .draining { s with amc.finish := some c }

/-- AMC's judgement of SAFE_ENTER (R93). -/
def safeEnterRuling (c : CellNo) (s : State) : State :=
  match s.amc.mode with
  | .config => endCell c .mode s
  | .safe => endCell c .ok s
  | .standby | .production | .draining => endCell c .ok (enterSafe s)

/-- AMC's judgement of SAFE_LEAVE (R95). -/
def safeLeaveRuling (c : CellNo) (s : State) : State :=
  if s.amc.mode ≠ .safe then endCell c .mode s
  else if s.classOut .safe then refuseSafe c s
  else endCell c .ok (changeMode .standby s)

/-- RECONFIGURE's failed conditions (R96). -/
def reconfigureFailures (s : State) : Half :=
  BitVec.ofNat 16 (failedBits
    [!s.cvt.map.isEmpty,
      s.amc.changeover.isSome || s.fxc.purge.isSome || s.calibrating || s.ptc.feed.isSome])

/-- AMC's judgement of RECONFIGURE (R96); the read of the initial profile field checks its parity. -/
def reconfigureRuling (c : CellNo) (s : State) : State :=
  if s.amc.mode ≠ .standby then endCell c .mode s
  else if reconfigureFailures s ≠ 0 then endCell c .notReady (putReply c 0 (reconfigureFailures s) s)
  else
    let s := readChecked [initialProfileAddr] s
    let s := changeMode .config { s with amc.activeProfile := s.initialProfileByte }
    endCell c .ok (startRunOn s)

/-! ### PROFILE_SELECT (R27) -/

/-- A PROFILE_SELECT that ends without entering a phase. -/
def refuseSelect (c : CellNo) (r : RequestResult) (reply0 : Half) (s : State) : State :=
  endCell c r (putReply c 1 0 (putReply c 0 reply0 s))

/-- A PROFILE_SELECT enters DRAIN, reply 0 the active profile index (assumption log, entry 30); on an empty map the SWITCH is taken in the same event. -/
def enterDrain (c : CellNo) (n : Nat) (s : State) : State :=
  let s := replyActive c { s with amc.changeover := some { cell := c, target := Fin.ofNat 4 n, switchedAt := none } }
  if s.cvt.map.isEmpty then switchIfDraining s else s

/-- AMC's judgement of PROFILE_SELECT past the mode. -/
def selectJudged (c : CellNo) (n : Nat) (s : State) : State :=
  let f := profileFailure s n
  let s := offerProfileReads f s
  let active : Half := s.amc.activeProfile.zeroExtend 16
  match f with
  | some f => refuseSelect c .invalid (BitVec.ofNat 16 f.off) s
  | none =>
    if s.fxc.purge.isSome || s.calibrating then refuseSelect c .notReady active s
    else if n = s.amc.activeProfile.toNat then refuseSelect c .ok active s
    else enterDrain c n s

/-- AMC's judgement of PROFILE_SELECT (R27). -/
def selectRuling (c : CellNo) (s : State) : State :=
  let s := readArgs c 1 s
  let n := (s.cellArg c 0).toNat
  if s.amc.mode ≠ .standby ∧ s.amc.mode ≠ .production then
    refuseSelect c .mode (s.amc.activeProfile.zeroExtend 16) s
  else if 3 < n then refuseSelect c .invalid 0xFFFF s
  else selectJudged c n s

/-! ### ACK_ALARM (R84) -/

/-- PTC's notice of an acknowledgement that takes WIRE_FEED_TIMEOUT from LATCHED to QUIET (R84, R162). -/
def wireFeedNotice (before : AlarmState) (s : State) : State :=
  if before = .latched ∧ (s.alarm .wireFeedTimeout).state = .quiet then judgeFeeder (clearBlocked s) else s

/-- The acknowledgement of some entries in order, in one ruling; what follows the table's change follows after it. -/
def acknowledgeAll (l : List Alarm) (s : State) : State :=
  wireFeedNotice (s.alarm .wireFeedTimeout).state (afterAlarm s.conveyorStop (forEach l acknowledge s))

/-- The alarms an argument names: one, or all 32. -/
def ackTargets (n : Nat) : Option (List Alarm) :=
  if h : n < 32 then some [Alarm.ofId ⟨n, h⟩] else if n = 0xFF then some allAlarms else none

/-- AMC's judgement of ACK_ALARM. -/
def ackRuling (c : CellNo) (s : State) : State :=
  let s := readArgs c 1 s
  match ackTargets (s.cellArg c 0).toNat with
  | none => endCell c .invalid (putReply c 0 0 s)
  | some l =>
    let n := (l.filter s.ackChanges).length
    let s := putReply c 0 (BitVec.ofNat 16 n) (acknowledgeAll l s)
    endCell c (if n = 0 then .nothing else .ok) s

/-! ### MEASURE (R109) -/

/-- The counting mode of MEASURE's arguments 1 and 2, or the number of the first invalid one. -/
def measureMode (mode value : Nat) : Except Nat CountMode :=
  match mode with
  | 0 => if value = 100 ∨ value = 250 ∨ value = 500 ∨ value = 1000 then .ok (.rate value) else .error 2
  | 1 => if within value 1 60000 then .ok .opened else .error 2
  | 2 => .ok .span
  | _ => .error 1

/-- The first invalid argument of a MEASURE, or the claim it asks for. -/
def measureArgs (src mode value : Nat) : Except Nat (Source × CountMode) :=
  match srcOfNumber src with
  | none => .error 0
  | some x => (measureMode mode value).map fun m => (x, m)

/-- CTA's judgement of MEASURE (R109). That argument 2 of a SPAN, which is not examined, is not read either, and so not
checked for parity, is the model's choice (DESIGN CHOICE; assumption log, entry 41). -/
def measureRuling (c : CellNo) (s : State) : State :=
  let s := readArgs c (if s.cellArg c 1 = 2 then 2 else 3) s
  let value := (s.cellArg c 2).toNat
  match measureArgs (s.cellArg c 0).toNat (s.cellArg c 1).toNat value with
  | .error n => endCell c .invalid (putReply c 0 (BitVec.ofNat 16 n) s)
  | .ok (src, m) => placeDiag src m { s with cta.measure := some { cell := c, openTime := value } }

/-! ### FLUX_PURGE (R129) -/

/-- A purge that ends without entering a phase: reply 6. -/
def refusePurge (c : CellNo) (r : RequestResult) (reply6 : Half) (s : State) : State :=
  endCell c r (putReply c 6 reply6 s)

/-- The number of the first invalid argument of a FLUX_PURGE; a valve set above 255 is invalid (assumption log, entry
29). -/
def purgeArgs (valves duration duty : Nat) : Option Nat :=
  if !within valves 1 255 then some 0
  else if !within duration 100 30000 then some 1
  else if !within duty 100 1000 then some 2
  else none

/-- FXC's judgement of FLUX_PURGE. -/
def purgeRuling (c : CellNo) (s : State) : State :=
  let s := readArgs c 3 s
  let duration := (s.cellArg c 1).toNat
  let duty := (s.cellArg c 2).toNat
  if s.amc.mode ≠ .standby ∧ s.amc.mode ≠ .production then refusePurge c .mode 0 s
  else
    match purgeArgs (s.cellArg c 0).toNat duration duty with
    | some n => refusePurge c .invalid (BitVec.ofNat 16 n) s
    | none =>
      if s.amc.changeover.isSome then refusePurge c .notReady 0 s
      else
        let l : Load := { valves := loByte (s.cellArg c 0), duty := duty }
        { s with fxc.purge := some { cell := c, load := l, duration := duration, phase := .wait, valveTime := 0,
                                     flow := none } }

/-! ### LEVEL_CALIBRATE (R163) -/

/-- PTC's judgement of LEVEL_CALIBRATE. -/
def calibrateRuling (c : CellNo) (s : State) : State :=
  if s.amc.mode ≠ .standby then endCell c .mode (putReply c 2 0 s)
  else if s.ptc.feed.isSome || s.amc.changeover.isSome || s.amc.inForce.isNone then
    endCell c .notReady (putReply c 2 0 s)
  else
    calibrateStopped (judgeFeeder (followCommands
      { s with ptc.calibrate := some { cell := c, phase := .stopping } }))

/-! ### FEED_SOLDER (R165) -/

/-- A FEED_SOLDER that ends at once on the level state: replies 0 and 1 (R165). That reply 2 stays absent here, also on
HIGH where the level is known, is the model's choice (DESIGN CHOICE; assumption log, entry 36). -/
def feedAtOnce (c : CellNo) (cause : Half) (s : State) : State :=
  judgeFeeder (endCell c .ok (putReply c 1 cause (putReply c 0 0 s)))

/-- A FEED_SOLDER taken: BLOCKED is cleared and the feed timer 0; the feeder feeds unless the level forbids it. -/
def feedTaken (c : CellNo) (duration : Nat) (s : State) : State :=
  let s := { clearBlocked s with ptc.feedTimer := 0 }
  match s.ptc.levelState with
  | .high => feedAtOnce c 1 s
  | .unknown => feedAtOnce c 2 s
  | .normal | .low | .lowLow =>
    { s with ptc.feeder := .feeding,
             ptc.feed := some { cell := c, since := s.amc.ticks, duration := duration } }

/-- PTC's judgement of FEED_SOLDER. -/
def feedRuling (c : CellNo) (s : State) : State :=
  let s := readArgs c 1 s
  let n := (s.cellArg c 0).toNat
  if s.amc.mode ≠ .standby ∧ s.amc.mode ≠ .production then endCell c .mode s
  else if !within n 100 60000 then endCell c .invalid s
  else if !s.ptc.pot.state.molten || s.calibrating || s.amc.inForce.isNone then endCell c .notReady s
  else feedTaken c n s

/-! ### CANCEL (R17) -/

/-- A target its owner has not ruled on yet: it ends without entering a phase (assumption log, entry 17). -/
def cancelUnruled (t : CellNo) (r : Request) (s : State) : State :=
  let s := takeHanded t s
  let s :=
    match r with
    | .finish => putReply t 0 (BitVec.ofNat 16 s.cvt.map.length) s
    | .profileSelect => putReply t 1 0 (replyActive t s)
    | .fluxPurge => putReply t 6 0 s
    | .levelCalibrate => putReply t 2 0 s
    | .start | .produce | .safeEnter | .safeLeave | .reconfigure | .ackAlarm | .measure | .feedSolder | .cancel => s
  endCell t .cancelled s

/-- FXC ends a purge CANCELLED (R130). -/
def cancelPurge (s : State) : State :=
  match s.fxc.purge with
  | none => s
  | some p =>
    match p.phase with
    | .wait => endPurgeWait p .cancelled s
    | .spray t => endPurgeSpray p .cancelled (s.sprayed t) s

/-- CTA ends a MEASURE CANCELLED (R109). -/
def cancelMeasure (s : State) : State :=
  match s.cta.measure with
  | none => s
  | some m => endCell m.cell .cancelled (diagOut { s with cta.measure := none })

/-- The owner of a running long request ends it CANCELLED. -/
def cancelRunning (r : Request) (s : State) : State :=
  match r with
  | .finish => if s.amc.finish.isSome then endFinish .cancelled (changeMode .production s) else s
  | .profileSelect => endChangeover .cancelled s
  | .measure => cancelMeasure s
  | .fluxPurge => cancelPurge s
  | .levelCalibrate => abortCalibrate .cancelled s
  | .feedSolder => endFeed .cancelled 5 s
  | .start | .produce | .safeEnter | .safeLeave | .reconfigure | .ackAlarm | .cancel => s

/-- The target's owner rules on a forwarded cancellation; the target is DONE after it. -/
def cancelTarget (t : CellNo) (r : Request) (s : State) : State :=
  if s.hpx.handed.contains t then cancelUnruled t r s
  else
    let s := cancelRunning r s
    if s.cellState t = cellTaken then endCell t .cancelled s else s

/-- The long request running in a cell, if one is. -/
def State.runningLong (s : State) (t : CellNo) : Option Request :=
  if s.cellState t = cellTaken then (Request.ofCode (s.cellCode t)).filter Request.isLong else none

/-- The dispatcher's read of a TAKEN target's code checks its parity (R4, R17). -/
def readTargetCode (t : CellNo) (s : State) : State :=
  if s.cellState t = cellTaken then readChecked [cellBase t + 2] s else s

/-- CANCEL of a target cell. -/
def cancelCell (c t : CellNo) (s : State) : State :=
  if t = c then endCell c .nothing s
  else
    let s := readTargetCode t s
    match s.runningLong t with
    | none => endCell c .nothing s
    | some r => endCell c .ok (cancelTarget t r s)

/-- The dispatcher's judgement of CANCEL. -/
def cancelRuling (c : CellNo) (s : State) : State :=
  let s := readArgs c 1 s
  let n := (s.cellArg c 0).toNat
  if h : n < 8 then cancelCell c ⟨n, h⟩ s else endCell c .invalid s

end Sys2Proof.Machine
end

