-- ==== Sys2Proof/Machine/Events.lean ====
section
/-! DEFINITION. Events that concern several blocks: the debounced inputs (R88, R127, R128), the conveyor stall (R62), the
grace timer (R172) and the neighbours' lines (R75). -/

namespace Sys2Proof.Machine

/-! ### Debounced inputs -/

/-- A count of consecutive disagreeing samples after one more sample. -/
def debounceCount (count : Nat) (agrees : Bool) : Nat := if agrees then 0 else count + 1

/-- SAFETY_CHAIN_DEBOUNCE is due: 20 samples in a row have disagreed (R88). -/
def State.chainDue (s : State) : Bool := decide (20 ≤ s.amc.chainCount)

/-- The debounced chain level changes, with its claim. -/
def chainFlip (s : State) : State :=
  let s := { s with amc.chainOpen := !s.amc.chainOpen, amc.chainCount := 0 }
  judgeAny .safetyChainOpen s.amc.chainOpen 0 s

/-- SAFETY_CHAIN_DEBOUNCE. -/
def chainDebounce (s : State) : State := if s.chainDue then chainFlip s else s

/-- PRESSURE_SWITCH_DEBOUNCE is due: 200 samples in a row have disagreed (R127). -/
def State.pressureDue (s : State) : Bool := decide (200 ≤ s.fxc.pressureCount)

/-- PRESSURE_SWITCH_DEBOUNCE. -/
def pressureDebounce (s : State) : State :=
  if s.pressureDue then
    judgePressure { s with fxc.pressureOk := !s.fxc.pressureOk, fxc.pressureCount := 0 }
  else s

/-- TANK_SWITCH_DEBOUNCE is due: 200 samples in a row have disagreed (R128). -/
def State.tankDue (s : State) : Bool := decide (200 ≤ s.fxc.tankCount)

/-- TANK_SWITCH_DEBOUNCE. -/
def tankDebounce (s : State) : State :=
  if s.tankDue then judgeTank { s with fxc.tankHigh := !s.fxc.tankHigh, fxc.tankCount := 0 } else s

/-! ### Conveyor stall (R62) -/

/-- CONVEYOR_STALL: the drive is STALLED, and the raise claim carries the reference. -/
def conveyorStall (s : State) : State :=
  if s.stallDue then
    raiseAny .conveyorStall (BitVec.ofNat 16 s.cvt.reference) none { s with cvt.drive := .stalled }
  else s

/-! ### Grace (R172) -/

/-- GRACE_EXPIRY: the timer stands at 0 and EXTRACT_FAILED is pulsed. -/
def graceExpiry (s : State) : State :=
  if s.graceDue then pulseAny .extractFailed s.failedDetail none { s with exm.grace := .expired } else s

/-! ### The neighbours (R75) -/

/-- A change of DN_ACCEPT. -/
def dnAcceptChange (level : Bool) (s : State) : State := followDownstream { s with cvt.dnAccept := level }

/-- A change of UP_OFFER. -/
def upOfferChange (level : Bool) (s : State) : State := { s with cvt.upOffer := level }

end Sys2Proof.Machine
end

