-- ==== Sys2Proof/Machine/Clock.lean ====
section
/-! DEFINITION. The millisecond tick of the line clock (R97) with the samples and counts that move at it (R88, R119, R127,
R128, R161), and the part's self-timed events that stand due before it (assumption log, entry 5). -/

namespace Sys2Proof.Machine

/-- A list of events taken one after the other. -/
def runAll (l : List (State → State)) (s : State) : State := l.foldl (fun t f => f t) s

/-- The events of the host port, the scanner, the conveyor and the alarms. -/
def dueLine : List (State → State) :=
  [slotExpiry, takeHeld, takeBlocked .pulseFirst, chainDebounce, pressureDebounce, tankDebounce, conveyorStall,
    measureSpeed, driveRamp, downstreamExpiry]

/-- All counting sources. -/
def allSources : List Source := [.flow, .tachChip, .tachMain, .tachFan, .echo, .pyro, .aux]

/-- A SPAN claim whose 30,000 µs have passed ends NO_EDGE before the clock moves on. -/
def forceNoEdge (src : Source) (s : State) : State := if s.noEdgeDue src 30 then endNoEdge src s else s

/-- A SPAN claim whose count has reached 25,001 ends OVERRANGE before the clock moves on. -/
def forceOver (src : Source) (s : State) : State := if s.overDue src 26 then endOver src s else s

/-- The events of the counter array. -/
def dueCounting : List (State → State) :=
  allUnits.map gateClose ++ allUnits.map gateOpen ++ allSources.map forceNoEdge ++ allSources.map forceOver ++
    [openExpiry]

/-- The events of the flux bar, the links and the zones. -/
def dueProcess : List (State → State) :=
  [openTimeEnd, periodStart, sprayExpiry, pyroPlacement, roundStart, pollStart] ++ allZones.map zoneSettleExpiry ++
    [zonePeriodStart] ++ allZones.map zoneOnTimeEnd

/-- The events of the pot. -/
def duePot : List (State → State) :=
  [potSettleExpiry, potPeriodStart, potOnTimeEnd, pumpRamp, pumpStale .chip, pumpStale .main, echoPlacement, quietExpiry,
    feedRequestExpiry, feedTimeout]

/-- The events of the extraction, then the purge's spray start and the changeover's ends. -/
def dueRest : List (State → State) :=
  [suppressionExpiry, condExpiry .airflowLow, condExpiry .airflowLost, condExpiry .filterLoaded,
    condExpiry .filterClogged, fanStallExpiry, fanClearExpiry, graceExpiry, runOnExpiry, sprayStart, changeoverComplete,
    changeoverTimeout]

/-- Every self-timed event that stands due, each where it is due. -/
def takeDue (s : State) : State :=
  runAll dueRest (runAll duePot (runAll dueProcess (runAll dueCounting (runAll dueLine s))))

/-- The chain and the two switches are sampled (R88, R127, R128). -/
def sampleSwitches (i : TickInputs) (s : State) : State :=
  { s with amc.chainCount := debounceCount s.amc.chainCount (i.safetyOk != s.amc.chainOpen),
           fxc.pressureCount := debounceCount s.fxc.pressureCount (i.pressureClosed == s.fxc.pressureOk),
           fxc.tankCount := debounceCount s.fxc.tankCount (i.tankHigh == s.fxc.tankHigh) }

/-- A valve was open during some part of the interval that ends (R119). -/
def State.valveWasOpen (s : State) (i : TickInputs) : Bool := s.fxc.valves != 0 || (s.fxc.closedPart && i.valvePart)

/-- The board's fluxing goes on. -/
def FluxBoard.accrued (b : FluxBoard) : FluxBoard :=
  if b.interrupted then b else { b with valveTime := b.valveTime + 1 }

/-- The purge sprays. -/
def Purge.accrued (p : Purge) : Purge :=
  match p.phase with
  | .spray _ => { p with valveTime := p.valveTime + 1 }
  | .wait => p

/-- Valve-open time accrues to the work in progress (R119). -/
def accrueValves (i : TickInputs) (s : State) : State :=
  if s.valveWasOpen i then
    { s with fxc.board := s.fxc.board.map FluxBoard.accrued, fxc.purge := s.fxc.purge.map Purge.accrued,
             fxc.closedPart := false }
  else { s with fxc.closedPart := false }

/-- The feed timer counts while the feeder feeds of itself (R161). -/
def countFeed (s : State) : State :=
  if s.ptc.feeder = .feeding ∧ s.ptc.feed.isNone then { s with ptc.feedTimer := s.ptc.feedTimer + 1 } else s

/-- The line clock advances by 1. -/
def advanceClock (s : State) : State := { s with amc.ticks := s.amc.ticks + 1 }

/-- What moves at the tick itself. -/
def tickWhole (i : TickInputs) (s : State) : State := sampleSwitches i (countFeed (advanceClock (accrueValves i s)))

/-- LINE_CLOCK_TICK; the clock stands still during power-on initialisation (R97). -/
def clockTick (i : TickInputs) (s : State) : State :=
  if s.hpx.phase = .initialising then s else tickWhole i (takeDue s)

end Sys2Proof.Machine
end

