-- ==== Sys2Proof/Machine/ExecHost.lean ====
section
/-! DEFINITION. The meanings of the host port: power-on, accesses, registers, resets, and the slot. -/

namespace Sys2Proof.Machine

/-- The register that a discarded write names. -/
def discardRegister : DiscardReg → Register
  | .ident => .ident
  | .refusalAddr => .refusalAddr
  | .refusalData => .refusalData

/-- POWER_ON (R18). -/
def execPowerOn (s : State) : Host.Outcome State Fault Refusal := .next (powerOnReset s)

/-- POWER_ON_INIT_END (R18). -/
def execPowerOnInitEnd (s : State) : Host.Outcome State Fault Refusal := .next (initEnd s)

/-- HOST_READ (R1, R4). -/
def execHostRead (addr : Half) (en : Enables) (s : State) : Host.Outcome State Fault Refusal :=
  .next (hostReadAt addr en s)

/-- HOST_WRITE (R1, R5). -/
def execHostWrite (addr : Half) (en : Enables) (data : Half) (s : State) : Host.Outcome State Fault Refusal :=
  .next (hostWriteAt addr en data s)

/-- WATCHED_WRITE (R8, R9, R11). -/
def execWatchedWrite (addr : Half) (en : Enables) (data : Half) (s : State) : Host.Outcome State Fault Refusal :=
  .next (hostWriteAt addr en data s)

/-- PENDING_SLOT_EXPIRY (R10). -/
def execPendingSlotExpiry (s : State) : Host.Outcome State Fault Refusal := .next (slotExpiry s)

/-- CONTROL_RESET (R12, R19). -/
def execControlReset (en : Enables) (data : Half) (s : State) : Host.Outcome State Fault Refusal :=
  .next (hostWriteAt Register.control.addr en data s)

/-- HOST_RESET_SWEEP_END (R19). -/
def execHostResetSweepEnd (s : State) : Host.Outcome State Fault Refusal := .next (sweepEnd s)

/-- PARITY_INVERT (R3, R12). -/
def execParityInvert (en : Enables) (data : Half) (s : State) : Host.Outcome State Fault Refusal :=
  .next (hostWriteAt Register.control.addr en data s)

/-- ATTN_WRITE (R13). -/
def execAttnWrite (en : Enables) (data : Half) (s : State) : Host.Outcome State Fault Refusal :=
  .next (hostWriteAt Register.attn.addr en data s)

/-- ATTN_MASK_WRITE (R13). -/
def execAttnMaskWrite (en : Enables) (data : Half) (s : State) : Host.Outcome State Fault Refusal :=
  .next (hostWriteAt Register.attnMask.addr en data s)

/-- REFUSAL_REASON_WRITE (R7). -/
def execRefusalReasonWrite (en : Enables) (data : Half) (s : State) : Host.Outcome State Fault Refusal :=
  .next (hostWriteAt Register.refusalReason.addr en data s)

/-- PARITY_ADDR_WRITE (R4). -/
def execParityAddrWrite (en : Enables) (data : Half) (s : State) : Host.Outcome State Fault Refusal :=
  .next (hostWriteAt Register.parityAddr.addr en data s)

/-- REGISTER_WRITE_DISCARDED (R12). -/
def execRegisterWriteDiscarded (reg : DiscardReg) (en : Enables) (data : Half) (s : State) :
    Host.Outcome State Fault Refusal :=
  .next (hostWriteAt (discardRegister reg).addr en data s)

end Sys2Proof.Machine
end

