-- ==== Sys2Proof/Machine/ExecLine.lean ====
section
/-! DEFINITION. The meanings of the conveyor, the scanner, the neighbours, the alarms and the line clock. -/

namespace Sys2Proof.Machine

/-- SAFETY_CHAIN_DEBOUNCE (R88). -/
def execSafetyChainDebounce (s : State) : Host.Outcome State Fault Refusal := .next (chainDebounce s)

/-- ENCODER_PULSE (R57). -/
def execEncoderPulse (s : State) : Host.Outcome State Fault Refusal := .next (encoderPulse s)

/-- MM_TICK (R57). -/
def execMmTick (entryBlocked exitBlocked : Bool) (order : List TickPhase) (jam : JamOrder) (s : State) :
    Host.Outcome State Fault Refusal :=
  .next (mmTick entryBlocked exitBlocked order jam s)

/-- ENTRY_BLOCKED (R66). -/
def execEntryBlocked (jam : JamOrder) (s : State) : Host.Outcome State Fault Refusal := .next (entryBlocked jam s)

/-- EXIT_BLOCKED (R71). -/
def execExitBlocked (jam : JamOrder) (s : State) : Host.Outcome State Fault Refusal := .next (exitBlocked jam s)

/-- SCANNER_CHARACTER (R43, R44). -/
def execScannerCharacter (frame : RxFrame) (prevTakenFirst takenNow : Bool) (s : State) :
    Host.Outcome State Fault Refusal :=
  .next (receiveCharacter frame prevTakenFirst takenNow s)

/-- CONVEYOR_SPEED_MEASUREMENT (R59). -/
def execConveyorSpeedMeasurement (s : State) : Host.Outcome State Fault Refusal := .next (measureSpeed s)

/-- DRIVE_RAMP_STEP (R60). -/
def execDriveRampStep (s : State) : Host.Outcome State Fault Refusal := .next (driveRamp s)

/-- CONVEYOR_STALL (R62). -/
def execConveyorStall (s : State) : Host.Outcome State Fault Refusal := .next (conveyorStall s)

/-- DN_ACCEPT_CHANGE (R75). -/
def execDnAcceptChange (level : Bool) (s : State) : Host.Outcome State Fault Refusal := .next (dnAcceptChange level s)

/-- DOWNSTREAM_TIMER_EXPIRY (R75). -/
def execDownstreamTimerExpiry (s : State) : Host.Outcome State Fault Refusal := .next (downstreamExpiry s)

/-- UP_OFFER_CHANGE (R75). -/
def execUpOfferChange (level : Bool) (s : State) : Host.Outcome State Fault Refusal := .next (upOfferChange level s)

/-- LINE_CLOCK_TICK (R97). -/
def execLineClockTick (inputs : TickInputs) (s : State) : Host.Outcome State Fault Refusal := .next (clockTick inputs s)

end Sys2Proof.Machine
end

