-- ==== Sys2Proof/Machine/ExecProcess.lean ====
section
/-! DEFINITION. The meanings of the commands of the flux bar, the preheat, the pot and the extraction. -/

namespace Sys2Proof.Machine

/-- VALVE_PERIOD_START (R117). -/
def execValvePeriodStart (s : State) : Host.Outcome State Fault Refusal := .next (periodStart s)

/-- VALVE_OPEN_TIME_END (R117). -/
def execValveOpenTimeEnd (s : State) : Host.Outcome State Fault Refusal := .next (openTimeEnd s)

/-- PRESSURE_SWITCH_DEBOUNCE (R127). -/
def execPressureSwitchDebounce (s : State) : Host.Outcome State Fault Refusal := .next (pressureDebounce s)

/-- TANK_SWITCH_DEBOUNCE (R128). -/
def execTankSwitchDebounce (s : State) : Host.Outcome State Fault Refusal := .next (tankDebounce s)

/-- PYRO_CLAIM_PLACEMENT (R142). -/
def execPyroClaimPlacement (s : State) : Host.Outcome State Fault Refusal := .next (pyroPlacement s)

/-- ZONE_HEATER_PERIOD_START (R133). -/
def execZoneHeaterPeriodStart (s : State) : Host.Outcome State Fault Refusal := .next (zonePeriodStart s)

/-- ZONE_HEATER_ON_TIME_END (R133). -/
def execZoneHeaterOnTimeEnd (zone : ZoneNo) (s : State) : Host.Outcome State Fault Refusal :=
  .next (zoneOnTimeEnd zone s)

/-- ZONE_SETTLE_EXPIRY (R135). -/
def execZoneSettleExpiry (zone : ZoneNo) (s : State) : Host.Outcome State Fault Refusal :=
  .next (zoneSettleExpiry zone s)

/-- POT_HEATER_PERIOD_START (R150). -/
def execPotHeaterPeriodStart (s : State) : Host.Outcome State Fault Refusal := .next (potPeriodStart s)

/-- POT_HEATER_ON_TIME_END (R150). -/
def execPotHeaterOnTimeEnd (s : State) : Host.Outcome State Fault Refusal := .next (potOnTimeEnd s)

/-- POT_SETTLE_EXPIRY (R149). -/
def execPotSettleExpiry (s : State) : Host.Outcome State Fault Refusal := .next (potSettleExpiry s)

/-- PUMP_RAMP_STEP (R153). -/
def execPumpRampStep (s : State) : Host.Outcome State Fault Refusal := .next (pumpRamp s)

/-- PUMP_SPEED_STALE (R154). -/
def execPumpSpeedStale (pump : PumpId) (s : State) : Host.Outcome State Fault Refusal := .next (pumpStale pump s)

/-- ECHO_CLAIM_PLACEMENT (R159). -/
def execEchoClaimPlacement (s : State) : Host.Outcome State Fault Refusal := .next (echoPlacement s)

/-- FEED_TIMEOUT (R162). -/
def execFeedTimeout (s : State) : Host.Outcome State Fault Refusal := .next (feedTimeout s)

/-- EXTRACT_SUPPRESSION_EXPIRY (R169). -/
def execExtractSuppressionExpiry (s : State) : Host.Outcome State Fault Refusal := .next (suppressionExpiry s)

/-- EXTRACT_CONFIRMATION_EXPIRY (R170). -/
def execExtractConfirmationExpiry (cond : PressureCond) (s : State) : Host.Outcome State Fault Refusal :=
  .next (condExpiry cond s)

/-- FAN_STALL_EXPIRY (R171). -/
def execFanStallExpiry (s : State) : Host.Outcome State Fault Refusal := .next (fanStallExpiry s)

/-- FAN_CLEAR_EXPIRY (R171). -/
def execFanClearExpiry (s : State) : Host.Outcome State Fault Refusal := .next (fanClearExpiry s)

/-- GRACE_EXPIRY (R172). -/
def execGraceExpiry (s : State) : Host.Outcome State Fault Refusal := .next (graceExpiry s)

/-- RUN_ON_EXPIRY (R168). -/
def execRunOnExpiry (s : State) : Host.Outcome State Fault Refusal := .next (runOnExpiry s)

end Sys2Proof.Machine
end

