-- ==== Sys2Proof/Machine/ExecRequests.lean ====
section
/-! DEFINITION. The meanings of the rulings and of the requests, and of the ends of the long requests. -/

namespace Sys2Proof.Machine

/-- DOCKET_STATE_RULING (R36). -/
def execDocketStateRuling (s : State) : Host.Outcome State Fault Refusal := .next (docketRuling s)

/-- RECIPE_STATE_RULING (R21). -/
def execRecipeStateRuling (s : State) : Host.Outcome State Fault Refusal := .next (recipeRuling s)

/-- REQUEST_CELL_RULING (R15). -/
def execRequestCellRuling (s : State) : Host.Outcome State Fault Refusal := .next (requestCellRuling s)

/-- START (R90). -/
def execStart (cell : CellNo) (s : State) : Host.Outcome State Fault Refusal :=
  .next (ruleRequest cell .start (startRuling cell) s)

/-- PRODUCE (R91). -/
def execProduce (cell : CellNo) (s : State) : Host.Outcome State Fault Refusal :=
  .next (ruleRequest cell .produce (produceRuling cell) s)

/-- FINISH (R92). -/
def execFinish (cell : CellNo) (s : State) : Host.Outcome State Fault Refusal :=
  .next (ruleRequest cell .finish (finishRuling cell) s)

/-- SAFE_ENTER (R93). -/
def execSafeEnter (cell : CellNo) (s : State) : Host.Outcome State Fault Refusal :=
  .next (ruleRequest cell .safeEnter (safeEnterRuling cell) s)

/-- SAFE_LEAVE (R95). -/
def execSafeLeave (cell : CellNo) (s : State) : Host.Outcome State Fault Refusal :=
  .next (ruleRequest cell .safeLeave (safeLeaveRuling cell) s)

/-- RECONFIGURE (R96). -/
def execReconfigure (cell : CellNo) (s : State) : Host.Outcome State Fault Refusal :=
  .next (ruleRequest cell .reconfigure (reconfigureRuling cell) s)

/-- PROFILE_SELECT (R27). -/
def execProfileSelect (cell : CellNo) (s : State) : Host.Outcome State Fault Refusal :=
  .next (ruleRequest cell .profileSelect (selectRuling cell) s)

/-- ACK_ALARM (R84). -/
def execAckAlarm (cell : CellNo) (s : State) : Host.Outcome State Fault Refusal :=
  .next (ruleRequest cell .ackAlarm (ackRuling cell) s)

/-- MEASURE (R109). -/
def execMeasure (cell : CellNo) (s : State) : Host.Outcome State Fault Refusal :=
  .next (ruleRequest cell .measure (measureRuling cell) s)

/-- FLUX_PURGE (R129). -/
def execFluxPurge (cell : CellNo) (s : State) : Host.Outcome State Fault Refusal :=
  .next (ruleRequest cell .fluxPurge (purgeRuling cell) s)

/-- LEVEL_CALIBRATE (R163). -/
def execLevelCalibrate (cell : CellNo) (s : State) : Host.Outcome State Fault Refusal :=
  .next (ruleRequest cell .levelCalibrate (calibrateRuling cell) s)

/-- FEED_SOLDER (R165). -/
def execFeedSolder (cell : CellNo) (s : State) : Host.Outcome State Fault Refusal :=
  .next (ruleRequest cell .feedSolder (feedRuling cell) s)

/-- CANCEL (R17). -/
def execCancel (cell : CellNo) (s : State) : Host.Outcome State Fault Refusal :=
  .next (ruleRequest cell .cancel (cancelRuling cell) s)

/-- CHANGEOVER_COMPLETE (R29). -/
def execChangeoverComplete (s : State) : Host.Outcome State Fault Refusal := .next (changeoverComplete s)

/-- CHANGEOVER_TIMEOUT (R29). -/
def execChangeoverTimeout (s : State) : Host.Outcome State Fault Refusal := .next (changeoverTimeout s)

/-- MEASURE_OPEN_TIME_EXPIRY (R109). -/
def execMeasureOpenTimeExpiry (s : State) : Host.Outcome State Fault Refusal := .next (openExpiry s)

/-- PURGE_SPRAY_START (R129). -/
def execPurgeSprayStart (s : State) : Host.Outcome State Fault Refusal := .next (sprayStart s)

/-- PURGE_SPRAY_EXPIRY (R129). -/
def execPurgeSprayExpiry (s : State) : Host.Outcome State Fault Refusal := .next (sprayExpiry s)

/-- CALIBRATE_QUIET_EXPIRY (R163). -/
def execCalibrateQuietExpiry (s : State) : Host.Outcome State Fault Refusal := .next (quietExpiry s)

/-- FEED_REQUEST_TIMER_EXPIRY (R165). -/
def execFeedRequestTimerExpiry (s : State) : Host.Outcome State Fault Refusal := .next (feedRequestExpiry s)

end Sys2Proof.Machine
end

