-- ==== Sys2Proof/Machine/ExecSensors.lean ====
section
/-! DEFINITION. The meanings of the commands of the counter array, the thermo link and the fume link. -/

namespace Sys2Proof.Machine

/-- RATE_GATE_OPEN (R102). -/
def execRateGateOpen (unit : UnitNo) (s : State) : Host.Outcome State Fault Refusal := .next (gateOpen unit s)

/-- RATE_GATE_CLOSE (R102). -/
def execRateGateClose (unit : UnitNo) (s : State) : Host.Outcome State Fault Refusal := .next (gateClose unit s)

/-- SOURCE_EDGE (R102, R103). -/
def execSourceEdge (src : Source) (s : State) : Host.Outcome State Fault Refusal := .next (sourceEdge src s)

/-- SPAN_RISING_EDGE (R104). -/
def execSpanRisingEdge (src : Source) (s : State) : Host.Outcome State Fault Refusal := .next (spanRising src s)

/-- SPAN_FALLING_EDGE (R104). -/
def execSpanFallingEdge (src : Source) (micros : Nat) (s : State) : Host.Outcome State Fault Refusal :=
  .next (spanFalling src micros s)

/-- SPAN_NO_EDGE (R104). -/
def execSpanNoEdge (src : Source) (s : State) : Host.Outcome State Fault Refusal := .next (spanNoEdge src s)

/-- SPAN_OVERRANGE (R104). -/
def execSpanOverrange (src : Source) (s : State) : Host.Outcome State Fault Refusal := .next (spanOverrange src s)

/-- THERMO_ROUND_START (R111). -/
def execThermoRoundStart (s : State) : Host.Outcome State Fault Refusal := .next (roundStart s)

/-- THERMO_FRAME (R112). -/
def execThermoFrame (b0 b1 b2 b3 : Byte) (s : State) : Host.Outcome State Fault Refusal :=
  .next (thermoFrame (.ofBytes b0 b1 b2 b3) s)

/-- FUME_POLL_START (R114). -/
def execFumePollStart (s : State) : Host.Outcome State Fault Refusal := .next (pollStart s)

/-- FUME_POLL_END (R115). -/
def execFumePollEnd (bus : FumeBus) (s : State) : Host.Outcome State Fault Refusal := .next (pollEnded bus s)

end Sys2Proof.Machine
end

