-- ==== Sys2Proof/Machine/Dispatch.lean ====
section
/-! DEFINITION. The dispatch: one arm for each command, in the table's order. -/

namespace Sys2Proof.Machine

/-- The effect of a command on everything but the queue. -/
def exec (i : Instr) (s : State) : Host.Outcome State Fault Refusal :=
  match i with
  | .powerOn => Sys2Proof.Machine.execPowerOn s
  | .powerOnInitEnd => Sys2Proof.Machine.execPowerOnInitEnd s
  | .hostRead addr en => Sys2Proof.Machine.execHostRead addr en s
  | .hostWrite addr en data => Sys2Proof.Machine.execHostWrite addr en data s
  | .watchedWrite addr en data => Sys2Proof.Machine.execWatchedWrite addr en data s
  | .docketStateRuling => Sys2Proof.Machine.execDocketStateRuling s
  | .recipeStateRuling => Sys2Proof.Machine.execRecipeStateRuling s
  | .requestCellRuling => Sys2Proof.Machine.execRequestCellRuling s
  | .pendingSlotExpiry => Sys2Proof.Machine.execPendingSlotExpiry s
  | .controlReset en data => Sys2Proof.Machine.execControlReset en data s
  | .hostResetSweepEnd => Sys2Proof.Machine.execHostResetSweepEnd s
  | .parityInvert en data => Sys2Proof.Machine.execParityInvert en data s
  | .attnWrite en data => Sys2Proof.Machine.execAttnWrite en data s
  | .attnMaskWrite en data => Sys2Proof.Machine.execAttnMaskWrite en data s
  | .refusalReasonWrite en data => Sys2Proof.Machine.execRefusalReasonWrite en data s
  | .parityAddrWrite en data => Sys2Proof.Machine.execParityAddrWrite en data s
  | .registerWriteDiscarded reg en data => Sys2Proof.Machine.execRegisterWriteDiscarded reg en data s
  | .start cell => Sys2Proof.Machine.execStart cell s
  | .produce cell => Sys2Proof.Machine.execProduce cell s
  | .finish cell => Sys2Proof.Machine.execFinish cell s
  | .safeEnter cell => Sys2Proof.Machine.execSafeEnter cell s
  | .safeLeave cell => Sys2Proof.Machine.execSafeLeave cell s
  | .reconfigure cell => Sys2Proof.Machine.execReconfigure cell s
  | .profileSelect cell => Sys2Proof.Machine.execProfileSelect cell s
  | .changeoverComplete => Sys2Proof.Machine.execChangeoverComplete s
  | .changeoverTimeout => Sys2Proof.Machine.execChangeoverTimeout s
  | .ackAlarm cell => Sys2Proof.Machine.execAckAlarm cell s
  | .measure cell => Sys2Proof.Machine.execMeasure cell s
  | .measureOpenTimeExpiry => Sys2Proof.Machine.execMeasureOpenTimeExpiry s
  | .fluxPurge cell => Sys2Proof.Machine.execFluxPurge cell s
  | .purgeSprayStart => Sys2Proof.Machine.execPurgeSprayStart s
  | .purgeSprayExpiry => Sys2Proof.Machine.execPurgeSprayExpiry s
  | .levelCalibrate cell => Sys2Proof.Machine.execLevelCalibrate cell s
  | .calibrateQuietExpiry => Sys2Proof.Machine.execCalibrateQuietExpiry s
  | .feedSolder cell => Sys2Proof.Machine.execFeedSolder cell s
  | .feedRequestTimerExpiry => Sys2Proof.Machine.execFeedRequestTimerExpiry s
  | .cancel cell => Sys2Proof.Machine.execCancel cell s
  | .safetyChainDebounce => Sys2Proof.Machine.execSafetyChainDebounce s
  | .encoderPulse => Sys2Proof.Machine.execEncoderPulse s
  | .mmTick entryBlocked exitBlocked order jam => Sys2Proof.Machine.execMmTick entryBlocked exitBlocked order jam s
  | .entryBlocked jam => Sys2Proof.Machine.execEntryBlocked jam s
  | .exitBlocked jam => Sys2Proof.Machine.execExitBlocked jam s
  | .scannerCharacter frame first now => Sys2Proof.Machine.execScannerCharacter frame first now s
  | .valvePeriodStart => Sys2Proof.Machine.execValvePeriodStart s
  | .valveOpenTimeEnd => Sys2Proof.Machine.execValveOpenTimeEnd s
  | .pressureSwitchDebounce => Sys2Proof.Machine.execPressureSwitchDebounce s
  | .tankSwitchDebounce => Sys2Proof.Machine.execTankSwitchDebounce s
  | .pyroClaimPlacement => Sys2Proof.Machine.execPyroClaimPlacement s
  | .conveyorSpeedMeasurement => Sys2Proof.Machine.execConveyorSpeedMeasurement s
  | .driveRampStep => Sys2Proof.Machine.execDriveRampStep s
  | .conveyorStall => Sys2Proof.Machine.execConveyorStall s
  | .dnAcceptChange level => Sys2Proof.Machine.execDnAcceptChange level s
  | .downstreamTimerExpiry => Sys2Proof.Machine.execDownstreamTimerExpiry s
  | .upOfferChange level => Sys2Proof.Machine.execUpOfferChange level s
  | .rateGateOpen unit => Sys2Proof.Machine.execRateGateOpen unit s
  | .rateGateClose unit => Sys2Proof.Machine.execRateGateClose unit s
  | .sourceEdge src => Sys2Proof.Machine.execSourceEdge src s
  | .spanRisingEdge src => Sys2Proof.Machine.execSpanRisingEdge src s
  | .spanFallingEdge src micros => Sys2Proof.Machine.execSpanFallingEdge src micros s
  | .spanNoEdge src => Sys2Proof.Machine.execSpanNoEdge src s
  | .spanOverrange src => Sys2Proof.Machine.execSpanOverrange src s
  | .thermoRoundStart => Sys2Proof.Machine.execThermoRoundStart s
  | .thermoFrame b0 b1 b2 b3 => Sys2Proof.Machine.execThermoFrame b0 b1 b2 b3 s
  | .fumePollStart => Sys2Proof.Machine.execFumePollStart s
  | .fumePollEnd bus => Sys2Proof.Machine.execFumePollEnd bus s
  | .zoneHeaterPeriodStart => Sys2Proof.Machine.execZoneHeaterPeriodStart s
  | .zoneHeaterOnTimeEnd zone => Sys2Proof.Machine.execZoneHeaterOnTimeEnd zone s
  | .zoneSettleExpiry zone => Sys2Proof.Machine.execZoneSettleExpiry zone s
  | .potHeaterPeriodStart => Sys2Proof.Machine.execPotHeaterPeriodStart s
  | .potHeaterOnTimeEnd => Sys2Proof.Machine.execPotHeaterOnTimeEnd s
  | .potSettleExpiry => Sys2Proof.Machine.execPotSettleExpiry s
  | .pumpRampStep => Sys2Proof.Machine.execPumpRampStep s
  | .pumpSpeedStale pump => Sys2Proof.Machine.execPumpSpeedStale pump s
  | .echoClaimPlacement => Sys2Proof.Machine.execEchoClaimPlacement s
  | .feedTimeout => Sys2Proof.Machine.execFeedTimeout s
  | .extractSuppressionExpiry => Sys2Proof.Machine.execExtractSuppressionExpiry s
  | .extractConfirmationExpiry cond => Sys2Proof.Machine.execExtractConfirmationExpiry cond s
  | .fanStallExpiry => Sys2Proof.Machine.execFanStallExpiry s
  | .fanClearExpiry => Sys2Proof.Machine.execFanClearExpiry s
  | .graceExpiry => Sys2Proof.Machine.execGraceExpiry s
  | .runOnExpiry => Sys2Proof.Machine.execRunOnExpiry s
  | .lineClockTick inputs => Sys2Proof.Machine.execLineClockTick inputs s

end Sys2Proof.Machine
end

