-- ==== Sys2Proof/Machine/Step.lean ====
section
/-! DEFINITION. One step: the command at the front of the queue runs on the queue's rest; on an empty queue the part idles
(assumption log, entry 1). -/

namespace Sys2Proof.Machine

/-- The state with the queue's rest. -/
def State.withPending (s : State) (q : List Instr) : State := { s with pending := q }

/-- One step of the part. -/
def step (s : State) : Host.Outcome State Fault Refusal :=
  match s.pending with
  | [] => .next s
  | c :: rest => exec c (s.withPending rest)

/-- The state with the command that a word spells put at the front of the queue; no row of the table gives bits, so no
word spells one. -/
def State.withFetchWord (s : State) (nbits w : Nat) : State :=
  match decodeTableWord nbits w with
  | some c => s.withPending (c :: s.pending)
  | none => s

end Sys2Proof.Machine
end

