-- ==== Sys2Proof/Safety.lean ====
section
/-! DEFINITION. What a safe outcome is: the machine goes on.  The manual gives every command an effect, so neither a fault
nor a refusal is safe, and a step of this model ends in neither. -/

namespace Sys2Proof

/-- An outcome in which the machine goes on. -/
def Safe (o : Host.Outcome Machine.State Machine.Fault Machine.Refusal) : Prop := ∃ t, o = .next t

end Sys2Proof
end

