-- ==== Sys2Proof/Certificates/Slice0/Obligations.lean ====
section
/-! DEFINITION. The statements for the provers.  Each says what a command, or a group of commands of one shape, does to the
part; the conclusions are that `exec` answers a next state, and what that state holds. -/

open Sys2Proof Sys2Proof.Machine

namespace Sys2Proof.Says

/-- HPX has filled its refusal record, if it was empty, with this refusal (R7). -/
def offered (r0 : RefusalRecord) (addr data : Half) (reason : RefusalReason) : RefusalRecord :=
  if r0.reason = .none then { addr := addr, data := data, reason := reason } else r0

/-- ATTN after a refusal is offered: REFUSAL is set where the record was empty (R13). -/
def attnOffered (r0 : RefusalRecord) (attn : BitVec 6) : BitVec 6 := if r0.reason = .none then attn ||| 0x10 else attn

/-- A request cell has ended: state DONE, the result, ATTN.REQUEST (R16). -/
def Ends (c : CellNo) (r : RequestResult) (t : State) : Prop :=
  t.cellState c = cellDone ∧ t.byteAt (cellBase c + 1) = r.code ∧ t.hpx.attn.getLsbD 1 = true

/-- A cell's reply halfword. -/
def reply (t : State) (c : CellNo) (j : Nat) : Half := t.halfAt (cellBase c + 16 + 2 * j)

/-- A cell's 32-bit reply, low halfword in reply j. -/
def replyWord (t : State) (c : CellNo) (j : Nat) : Word := reply t c (j + 1) ++ reply t c j

/-- Every byte of the records and the host area reads as before, but those of some addresses. -/
def OnlyBytes (ok : Nat → Prop) (s t : State) : Prop := ∀ a, ¬ ok a → t.byteAt a = s.byteAt a

/-- Of the records and the host area only one cell's bytes have changed. -/
def OnlyCell (c : CellNo) (s t : State) : Prop := OnlyBytes (fun a => cellBase c ≤ a ∧ a < cellBase c + 32) s t

/-- Every block but HPX and DKC, and all of exchange memory's computed pages that they feed, stands as before. -/
def OthersKept (s t : State) : Prop :=
  t.cvt = s.cvt ∧ t.amc = s.amc ∧ t.cta = s.cta ∧ t.tlk = s.tlk ∧ t.flk = s.flk ∧ t.fxc = s.fxc ∧ t.phc = s.phc ∧
    t.ptc = s.ptc ∧ t.exm = s.exm ∧ t.pending = s.pending ∧ t.free = s.free

/-- A request turned away: only its cell, HPX and the list of requests handed over have changed. -/
def TurnedAway (c : CellNo) (s t : State) : Prop :=
  OthersKept s t ∧ t.dkc = s.dkc ∧ OnlyCell c s t

/-- The latched write is ruled on, now, with an outcome. -/
def RuledNow (accepted : Bool) (s t : State) : Prop :=
  t.hpx.slot = s.hpx.slot.map fun w => { w with progress := .ruled accepted s.amc.ticks }

/-- A host access, by any row of the port. -/
def hostAccess : Instr → Bool
  | .hostRead _ _ | .hostWrite _ _ _ | .watchedWrite _ _ _ | .controlReset _ _ | .parityInvert _ _ | .attnWrite _ _
  | .attnMaskWrite _ _ | .refusalReasonWrite _ _ | .parityAddrWrite _ _ | .registerWriteDiscarded _ _ _ => true
  | _ => false

/-- Some byte is enabled. -/
def anyByte (en : Enables) : Prop := en.lo = true ∨ en.hi = true

/-- No claim but a unit's own stands for its source: CTA holds one claim a source (R101). -/
def SoleClaim (s : State) (u : UnitNo) (src : Source) : Prop :=
  (∀ v, v ≠ u → ∀ c, s.unit v = some c → c.claim.source ≠ src) ∧ ∀ c ∈ s.cta.queue, c.source ≠ src

/-- DIAG neither owns nor follows a claim of another source, in any unit or in the claim queue. -/
def DiagOnly (s : State) (src : Source) : Prop :=
  (∀ v c, s.unit v = some c → c.claim.source ≠ src → c.claim.claimant ≠ .diag ∧ c.claim.follower = false) ∧
    ∀ k ∈ s.cta.queue, k.source ≠ src → k.claimant ≠ .diag ∧ k.follower = false

/-- The latest-result entry of a source after a result (R107). -/
def resultOf (s : State) (src : Source) (status : ResultStatus) (value : Option Nat) : LatestResult :=
  { value := value.map (BitVec.ofNat 32), status := status, time := some s.lineClock,
    seq := (s.cta.results[srcNumber src]).seq + 1 }

/-- An alarm's entry after an appearance or an occurrence has been recorded (R83). -/
def recordedAs (s : State) (a : Alarm) (st : AlarmState) (detail : Half) (docket : Option DocketNo) : AlarmEntry :=
  { state := st,
    occurrences := if (s.alarm a).occurrences = 0xFFFF then 0xFFFF else (s.alarm a).occurrences + 1,
    detail := if detail = 0xFFFF then 0xFFFE else detail, docket := docket, time := s.lineClock }

/-- The mode after an alarm of class SAFE has come out of QUIET (R93). -/
def safeOrSame (m : Mode) : Mode := if m.works then .safe else m

/-- A reference moved by at most one step towards its target (R60, R153). -/
def stepped (step reference target : Nat) : Nat :=
  if reference < target then min (reference + step) target else max (reference - step) target

/-- The DRAINING mode and a FINISH in flight go together, and with an alarm of class SAFE out of QUIET the mode is
SAFE or CONFIG. -/
def modeLegal (s : State) : Prop :=
  (s.amc.mode = .draining ↔ s.amc.finish ≠ none) ∧
    (s.classOut .safe = true → s.amc.mode = .safe ∨ s.amc.mode = .config)

/-- A pulse alarm is QUIET or LATCHED. -/
def pulsesLegal (s : State) : Prop :=
  ∀ a : Alarm, a.isPulse = true → (s.alarm a).state = .quiet ∨ (s.alarm a).state = .latched

/-- While the conveyor-stop signal is present the drive's reference and target are 0. -/
def stopHolds (s : State) : Prop := s.conveyorStop = true → s.cvt.reference = 0 ∧ s.cvt.target = 0

/-- The flux controller's acts: everything in its state but the valve period and the two debounced switches. -/
def fluxActs (s t : State) : Fxc :=
  { t.fxc with period := s.fxc.period, pressureOk := s.fxc.pressureOk, pressureCount := s.fxc.pressureCount,
               tankHigh := s.fxc.tankHigh, tankCount := s.fxc.tankCount }

/-- The pot controller's acts: its pot, pumps, feeder and requests, with the level and the time tables as before. -/
def potActs (s t : State) : Ptc :=
  { s.ptc with pot := t.ptc.pot, chip := t.ptc.chip, main := t.ptc.main, mainLeftRamping := t.ptc.mainLeftRamping,
               feeder := t.ptc.feeder, feedTimer := t.ptc.feedTimer, calibrate := t.ptc.calibrate,
               feed := t.ptc.feed }

/-- The conveyor's acts at a change of mode or of the stop signal: the drive and the downstream timer. -/
def driveActs (s t : State) : Cvt :=
  { s.cvt with drive := t.cvt.drive, reference := t.cvt.reference, target := t.cvt.target, stall := t.cvt.stall,
               downstream := t.cvt.downstream }

/-- What a change of mode, an alarm or the end of a request may move: attention, parity capture and the list handed
over at HPX; the drive; the mode, the alarms, the active profile and the requests at AMC; the claims; the flux bar's
loads and its board; the zones; the pot controller's acts; the records; a free value. -/
def modeActs (s t : State) : State :=
  { s with hpx.attn := t.hpx.attn, hpx.parityAddr := t.hpx.parityAddr, hpx.handed := t.hpx.handed,
           cvt := driveActs s t, amc.mode := t.amc.mode, amc.alarms := t.amc.alarms, amc.finish := t.amc.finish,
           amc.changeover := t.amc.changeover, amc.activeProfile := t.amc.activeProfile, amc.profile := t.amc.profile,
           cta := t.cta, fxc := fluxActs s t, phc.zones := t.phc.zones, ptc := potActs s t, xm := t.xm,
           free := t.free }

/-- What an alarm's change may move outside the block that claims it: attention, the alarm table, the flux bar and the
claims and records it then touches. -/
def alarmActs (s t : State) : State :=
  { s with hpx.attn := t.hpx.attn, amc.alarms := t.amc.alarms, cta := t.cta, fxc := fluxActs s t, xm := t.xm }

/-- The frame of each command: the state after it is the state before it but for the parts named in its row. -/
def framed (c : Instr) (s t : State) : Prop :=
  match c with
  | .powerOn => t.pending = s.pending ∧ t.free = s.free
  | .powerOnInitEnd | .hostRead _ _ | .watchedWrite _ _ _ | .pendingSlotExpiry | .hostResetSweepEnd | .parityInvert _ _
  | .attnWrite _ _ | .attnMaskWrite _ _ | .refusalReasonWrite _ _ | .parityAddrWrite _ _
  | .registerWriteDiscarded _ _ _ => t = { s with hpx := t.hpx }
  | .hostWrite _ _ _ =>
    t = { s with hpx := t.hpx, amc.activeProfile := t.amc.activeProfile, xm := t.xm }
  | .docketStateRuling => t = { s with hpx := t.hpx, dkc.arrival := t.dkc.arrival, xm := t.xm }
  | .recipeStateRuling | .requestCellRuling => t = { s with hpx := t.hpx, xm := t.xm }
  | .controlReset _ _ =>
    t = { modeActs s t with
            hpx := t.hpx, dkc := t.dkc,
            cvt := { driveActs s t with map := t.cvt.map, entryTracked := t.cvt.entryTracked,
                                        exitEdge := t.cvt.exitEdge },
            amc.chainOpen := t.amc.chainOpen, amc.chainCount := t.amc.chainCount, amc.profile := s.amc.profile,
            flk.poll := t.flk.poll, phc.pyro := t.phc.pyro,
            ptc := { potActs s t with chipList := t.ptc.chipList, mainList := t.ptc.mainList },
            exm := { t.exm with fanOn := s.exm.fanOn, fanRpm := s.exm.fanRpm, ductDp := s.exm.ductDp,
                                filterDp := s.exm.filterDp, suppression := s.exm.suppression } }
  | .start _ =>
    t = { modeActs s t with
            cvt.residue := t.cvt.residue, amc.inForce := t.amc.inForce, dkc.rxPast := t.dkc.rxPast, flk := t.flk,
            fxc.period := t.fxc.period,
            ptc := { potActs s t with distances := t.ptc.distances, echoFailures := t.ptc.echoFailures,
                                      echoLost := t.ptc.echoLost, levelState := t.ptc.levelState,
                                      workingRef := t.ptc.workingRef },
            exm := { t.exm with fanRpm := s.exm.fanRpm, ductDp := s.exm.ductDp, filterDp := s.exm.filterDp } }
  | .produce _ | .finish _ | .safeEnter _ | .safeLeave _ | .profileSelect _ | .ackAlarm _ | .cancel _
  | .conveyorStall => t = modeActs s t
  | .reconfigure _ => t = { modeActs s t with exm.runOn := t.exm.runOn }
  | .graceExpiry => t = { modeActs s t with exm.grace := t.exm.grace }
  | .thermoFrame _ _ _ _ => t = { modeActs s t with tlk := { t.tlk with nextRound := s.tlk.nextRound } }
  | .safetyChainDebounce =>
    t = { modeActs s t with amc.chainOpen := t.amc.chainOpen, amc.chainCount := t.amc.chainCount }
  | .measure _ | .measureOpenTimeExpiry => t = { s with hpx := t.hpx, cta := t.cta, xm := t.xm }
  | .fluxPurge _ => t = { s with hpx := t.hpx, fxc.purge := t.fxc.purge, xm := t.xm }
  | .feedSolder _ | .feedRequestTimerExpiry =>
    t = { s with hpx := t.hpx, ptc.feeder := t.ptc.feeder, ptc.feedTimer := t.ptc.feedTimer, ptc.feed := t.ptc.feed,
                 xm := t.xm }
  | .changeoverComplete | .changeoverTimeout =>
    t = { alarmActs s t with amc.changeover := t.amc.changeover, free := t.free }
  | .purgeSprayStart | .purgeSprayExpiry | .downstreamTimerExpiry => t = alarmActs s t
  | .pressureSwitchDebounce =>
    t = { alarmActs s t with fxc.pressureOk := t.fxc.pressureOk, fxc.pressureCount := t.fxc.pressureCount }
  | .tankSwitchDebounce =>
    t = { alarmActs s t with fxc.tankHigh := t.fxc.tankHigh, fxc.tankCount := t.fxc.tankCount }
  | .zoneSettleExpiry _ => t = { alarmActs s t with phc.zones := t.phc.zones }
  | .levelCalibrate _ => t = { alarmActs s t with hpx := t.hpx, ptc := potActs s t }
  | .potSettleExpiry | .feedTimeout => t = { alarmActs s t with ptc := potActs s t, free := t.free }
  | .pumpRampStep => t = { alarmActs s t with ptc := { potActs s t with nextRamp := t.ptc.nextRamp } }
  | .extractSuppressionExpiry | .extractConfirmationExpiry _ | .fanStallExpiry | .fanClearExpiry | .runOnExpiry =>
    t = { alarmActs s t with exm := { t.exm with fanRpm := s.exm.fanRpm, ductDp := s.exm.ductDp,
                                                 filterDp := s.exm.filterDp } }
  | .fumePollEnd _ =>
    t = { alarmActs s t with
            flk := { t.flk with nextPoll := s.flk.nextPoll },
            exm := { t.exm with fanOn := s.exm.fanOn, fanRpm := s.exm.fanRpm, runOn := s.exm.runOn } }
  | .rateGateClose _ | .sourceEdge _ | .spanFallingEdge _ _ | .spanNoEdge _ | .spanOverrange _ =>
    t = { alarmActs s t with
            phc.pyro := t.phc.pyro,
            ptc := { t.ptc with pot := s.ptc.pot, nextEcho := s.ptc.nextEcho, nextRamp := s.ptc.nextRamp,
                                chipList := t.ptc.chipList },
            exm := { s.exm with fanRpm := t.exm.fanRpm, stallTimer := t.exm.stallTimer,
                                clearTimer := t.exm.clearTimer },
            free := t.free }
  | .rateGateOpen _ | .spanRisingEdge _ => t = { s with cta.units := t.cta.units }
  | .pyroClaimPlacement =>
    t = { s with hpx.attn := t.hpx.attn, cta := t.cta, phc.pyro := t.phc.pyro, xm := t.xm }
  | .echoClaimPlacement =>
    t = { s with hpx.attn := t.hpx.attn, cta := t.cta, ptc.nextEcho := t.ptc.nextEcho, xm := t.xm }
  | .encoderPulse => t = { s with cvt.residue := t.cvt.residue, cvt.mmTicksDue := t.cvt.mmTicksDue }
  | .upOfferChange _ => t = { s with cvt.upOffer := t.cvt.upOffer }
  | .dnAcceptChange _ =>
    t = { s with hpx.attn := t.hpx.attn, amc.alarms := t.amc.alarms, cvt.dnAccept := t.cvt.dnAccept,
                 cvt.downstream := t.cvt.downstream }
  | .conveyorSpeedMeasurement | .driveRampStep =>
    t = { s with cvt := { t.cvt with travel := s.cvt.travel, target := s.cvt.target, map := s.cvt.map } }
  | .thermoRoundStart => t = { s with tlk := { t.tlk with channels := s.tlk.channels } }
  | .fumePollStart => t = { s with flk := { t.flk with duct := s.flk.duct, filter := s.flk.filter } }
  | .valvePeriodStart | .valveOpenTimeEnd => t = { s with fxc := { t.fxc with board := s.fxc.board } }
  | .zoneHeaterPeriodStart | .zoneHeaterOnTimeEnd _ => t = { s with phc := { t.phc with pyro := s.phc.pyro } }
  | .potHeaterPeriodStart | .potHeaterOnTimeEnd =>
    t = { s with ptc := { s.ptc with pot := t.ptc.pot, potPeriodStart := t.ptc.potPeriodStart,
                                     nextPotPeriod := t.ptc.nextPotPeriod } }
  | .calibrateQuietExpiry => t = { s with ptc.calibrate := t.ptc.calibrate }
  | .pumpSpeedStale _ => t = { s with ptc.chip := t.ptc.chip, ptc.main := t.ptc.main }
  | .mmTick _ _ _ _ | .entryBlocked _ | .exitBlocked _ =>
    t.hpx = { s.hpx with attn := t.hpx.attn, parityAddr := t.hpx.parityAddr } ∧ t.tlk = s.tlk ∧ t.flk = s.flk ∧
      t.exm = s.exm ∧ t.amc.ticks = s.amc.ticks ∧ t.amc.inForce = s.amc.inForce ∧ t.amc.chainOpen = s.amc.chainOpen ∧
      t.cvt.residue = s.cvt.residue ∧ t.cvt.upOffer = s.cvt.upOffer ∧ t.cvt.dnAccept = s.cvt.dnAccept ∧
      t.fxc.pressureOk = s.fxc.pressureOk ∧ t.fxc.tankHigh = s.fxc.tankHigh ∧ t.ptc.distances = s.ptc.distances ∧
      t.ptc.workingRef = s.ptc.workingRef
  | .scannerCharacter _ _ _ =>
    t = { alarmActs s t with
            hpx.parityAddr := t.hpx.parityAddr, dkc := t.dkc, cvt.map := t.cvt.map, phc := t.phc, ptc := t.ptc }
  | .lineClockTick _ =>
    t.hpx.answer = s.hpx.answer ∧ t.hpx.refusal = s.hpx.refusal ∧ t.hpx.attnMask = s.hpx.attnMask ∧
      t.hpx.handed = s.hpx.handed ∧ t.amc.inForce = s.amc.inForce ∧ t.cvt.travel = s.cvt.travel ∧
      t.cvt.residue = s.cvt.residue ∧ t.cvt.upOffer = s.cvt.upOffer ∧ t.cvt.dnAccept = s.cvt.dnAccept ∧
      t.ptc.workingRef = s.ptc.workingRef

/-! ### The bytes a command may store -/

/-- A byte of a request cell that the part writes: the state, the result and the replies. -/
def cellPart (c : CellNo) (a : Nat) : Prop :=
  a = cellBase c ∨ a = cellBase c + 1 ∨ (cellBase c + 16 ≤ a ∧ a < cellBase c + 32)

/-- A byte of a docket's stage, outcome, reasons, notes or results. -/
def docketResults (d : DocketNo) (a : Nat) : Prop := docketBase d + 34 ≤ a ∧ a < docketBase d + 74

/-- A byte of a docket that the part writes: the state, the refusal reason and the results. -/
def docketPart (d : DocketNo) (a : Nat) : Prop := a = docketBase d ∨ a = docketBase d + 1 ∨ docketResults d a

/-- The cells of the requests in flight, each with the code of its request. -/
def inFlight (s : State) : List (CellNo × Byte) :=
  (s.amc.finish.map fun c => (c, (0x03 : Byte))).toList ++
    (s.amc.changeover.map fun r => (r.cell, (0x10 : Byte))).toList ++
    (s.cta.measure.map fun r => (r.cell, (0x30 : Byte))).toList ++
    (s.fxc.purge.map fun r => (r.cell, (0x40 : Byte))).toList ++
    (s.ptc.calibrate.map fun r => (r.cell, (0x50 : Byte))).toList ++
    (s.ptc.feed.map fun r => (r.cell, (0x51 : Byte))).toList

/-- A byte of the cell of a request in flight. -/
def flightAt (s : State) (a : Nat) : Prop := ∃ p ∈ inFlight s, cellPart p.1 a

/-- A byte of the cell of the MEASURE in flight. -/
def measureAt (s : State) (a : Nat) : Prop := ∃ m, s.cta.measure = some m ∧ cellPart m.cell a

/-- A byte that the blocks' acts may store to: of a request in flight, or of the results of a docket ON_LINE. -/
def actsAt (s : State) (a : Nat) : Prop := flightAt s a ∨ ∃ d, s.onLine d = true ∧ docketResults d a

/-- A docket the line may write to: ON_LINE, in the arrival list, or named by a map entry. -/
def lineDocket (s : State) (d : DocketNo) : Prop :=
  s.onLine d = true ∨ d ∈ s.dkc.arrival ∨ ∃ e ∈ s.cvt.map, e.docket = some d

/-- A byte that the line's events may store to: of a request in flight, or of such a docket and its recipe's pins. -/
def lineAt (s : State) (a : Nat) : Prop :=
  flightAt s a ∨ ∃ d, lineDocket s d ∧ (docketPart d a ∨ a = recipeBase (s.recipeOf d) + 2)

/-- A byte that the ruling on a request handed over may store to: of its own cell, or of the blocks' acts. -/
def ruledAt (c : CellNo) (r : Request) (s : State) (a : Nat) : Prop :=
  s.isHanded c r = true ∧ (cellPart c a ∨ actsAt s a)

/-- A byte that the host-reset sweep stores to. -/
def sweptAt (s : State) (a : Nat) : Prop :=
  (∃ c, s.cellState c = cellTaken ∧ (a = cellBase c ∨ a = cellBase c + 1)) ∨
    (∃ d, s.docketState d = docketAnnounced ∧ (a = docketBase d ∨ a = docketBase d + 1)) ∨
    (∃ d, s.docketState d = docketOnLine ∧
      (a = docketBase d ∨ (docketBase d + 35 ≤ a ∧ a < docketBase d + 38) ∨
        (docketBase d + 48 ≤ a ∧ a < docketBase d + 52))) ∨
    ∃ r, a = recipeBase r + 2

/-- The bytes of the records and the host area that each command may store to. -/
def stored (c : Instr) (s : State) (a : Nat) : Prop :=
  match c with
  | .powerOn => True
  | .hostWrite x en _ => (en.lo = true ∧ a = x.toNat) ∨ (en.hi = true ∧ a = x.toNat + 1)
  | .docketStateRuling =>
    ∃ d v, s.waiting = some (.docket d, v) ∧ (docketPart d a ∨ a = recipeBase (s.recipeOf d) + 2)
  | .recipeStateRuling => ∃ r v, s.waiting = some (.recipe r, v) ∧ (a = recipeBase r ∨ a = recipeBase r + 1)
  | .requestCellRuling => ∃ x v, s.waiting = some (.cell x, v) ∧ cellPart x a
  | .controlReset _ _ => sweptAt s a
  | .start c => ruledAt c .start s a
  | .produce c => ruledAt c .produce s a
  | .finish c => ruledAt c .finish s a
  | .safeEnter c => ruledAt c .safeEnter s a
  | .safeLeave c => ruledAt c .safeLeave s a
  | .reconfigure c => ruledAt c .reconfigure s a
  | .profileSelect c => ruledAt c .profileSelect s a
  | .ackAlarm c => ruledAt c .ackAlarm s a
  | .levelCalibrate c => ruledAt c .levelCalibrate s a
  | .measure c => s.isHanded c .measure = true ∧ (cellPart c a ∨ measureAt s a)
  | .fluxPurge c => s.isHanded c .fluxPurge = true ∧ cellPart c a
  | .feedSolder c => s.isHanded c .feedSolder = true ∧ cellPart c a
  | .cancel c =>
    s.isHanded c .cancel = true ∧
      (cellPart c a ∨ actsAt s a ∨ ∃ x : CellNo, (s.cellArg c 0).toNat = x.val ∧ cellPart x a)
  | .changeoverComplete | .changeoverTimeout | .purgeSprayStart | .purgeSprayExpiry | .downstreamTimerExpiry
  | .pressureSwitchDebounce | .tankSwitchDebounce | .safetyChainDebounce | .conveyorStall | .zoneSettleExpiry _
  | .potSettleExpiry | .feedTimeout | .pumpRampStep | .thermoFrame _ _ _ _ | .fumePollEnd _
  | .extractSuppressionExpiry | .extractConfirmationExpiry _ | .fanStallExpiry | .fanClearExpiry | .graceExpiry
  | .runOnExpiry | .rateGateClose _ | .sourceEdge _ | .spanFallingEdge _ _ | .spanNoEdge _ | .spanOverrange _ =>
    actsAt s a
  | .measureOpenTimeExpiry | .pyroClaimPlacement | .echoClaimPlacement => measureAt s a
  | .feedRequestTimerExpiry => ∃ f, s.ptc.feed = some f ∧ cellPart f.cell a
  | .mmTick _ _ _ _ | .entryBlocked _ | .exitBlocked _ | .scannerCharacter _ _ _ | .lineClockTick _ => lineAt s a
  | .powerOnInitEnd | .hostRead _ _ | .watchedWrite _ _ _ | .pendingSlotExpiry | .hostResetSweepEnd
  | .parityInvert _ _ | .attnWrite _ _ | .attnMaskWrite _ _ | .refusalReasonWrite _ _ | .parityAddrWrite _ _
  | .registerWriteDiscarded _ _ _ | .calibrateQuietExpiry | .encoderPulse | .valvePeriodStart | .valveOpenTimeEnd
  | .conveyorSpeedMeasurement | .driveRampStep | .dnAcceptChange _ | .upOfferChange _ | .rateGateOpen _
  | .spanRisingEdge _ | .thermoRoundStart | .fumePollStart | .zoneHeaterPeriodStart | .zoneHeaterOnTimeEnd _
  | .potHeaterPeriodStart | .potHeaterOnTimeEnd | .pumpSpeedStale _ => False

/-! ### What a change of mode meets, and what every step keeps -/

/-- No MEASURE is in flight, no board is in a wave, no board's fluxing is in progress and no purge is spraying: a
change of mode then finds no record of another request or of a board to write. -/
def Undisturbed (s : State) : Prop :=
  s.cta.measure = none ∧ s.ptc.chipList = [] ∧ s.ptc.mainList = [] ∧
    (∀ b, s.fxc.board = some b → b.interrupted = true) ∧ s.spraying = false

/-- A request in flight stands in a TAKEN cell of its own code whose owner has ruled on it, no two cells are TAKEN
with the same long code, and no purge stands beside a changeover. -/
def requestsLegal (s : State) : Prop :=
  (∀ p ∈ inFlight s, s.cellState p.1 = cellTaken ∧ s.cellCode p.1 = p.2 ∧ p.1 ∉ s.hpx.handed) ∧
    (∀ x y : CellNo, s.cellState x = cellTaken → s.cellState y = cellTaken → s.cellCode x = s.cellCode y →
      (∃ r, Request.ofCode (s.cellCode x) = some r ∧ r.isLong = true) → x = y) ∧
    (s.amc.changeover ≠ none → s.fxc.purge = none)

/-- Fluxing goes on only while permitted, with no board beside a spraying purge; loads and open valves belong to one of
the two; and outside STANDBY, PRODUCTION and DRAINING every zone and the pot are OFF with their heaters off and no duty
buffered. -/
def outputsLegal (s : State) : Prop :=
  (s.spraying = true → s.fxc.board = none ∧ s.sprayPermission = true) ∧
    (∀ b, s.fxc.board = some b → b.interrupted = false → s.boardPermission = true) ∧
    (s.fxc.valves ≠ 0 ∨ s.fxc.active ≠ none ∨ s.fxc.buffered ≠ none →
      s.spraying = true ∨ ∃ b, s.fxc.board = some b ∧ b.interrupted = false) ∧
    (s.amc.mode.works = false →
      (∀ z, (s.zone z).state = .off ∧ (s.zone z).activeDuty = 0 ∧ (s.zone z).bufferedDuty = none ∧
        (s.zone z).heaterOn = false) ∧
      s.ptc.pot.state = .off ∧ s.ptc.pot.activeDuty = 0 ∧ s.ptc.pot.bufferedDuty = none ∧ s.ptc.pot.heaterOn = false)

/-- The arrival list names exactly the ANNOUNCED dockets, each once; a recipe's pin count is the number of dockets
ANNOUNCED or ON_LINE that name it; and the map holds at most 12 entries, whose dockets are ON_LINE and distinct. -/
def trackingLegal (s : State) : Prop :=
  (s.dkc.arrival.Nodup ∧ ∀ d, d ∈ s.dkc.arrival ↔ s.docketState d = docketAnnounced) ∧
    (∀ r, (s.pins r).toNat =
      (allDockets.filter fun d =>
        (s.docketState d == docketAnnounced || s.docketState d == docketOnLine) && s.recipeOf d == r).length) ∧
    s.cvt.map.length ≤ 12 ∧ (s.cvt.map.filterMap (·.docket)).Nodup ∧
    ∀ e ∈ s.cvt.map, ∀ d, e.docket = some d → s.onLine d = true

/-- The test that starts a pressure condition's confirmation timer, and without which the timer stops: of appearance
while the condition is absent, of disappearance while it is present (R170). -/
def confirms (d : Description) (c : PressureCond) (present : Bool) (dp : Int) : Prop :=
  match c, present with
  | .airflowLow, false => dp < d.ductLow
  | .airflowLow, true => (d.ductLow : Int) + d.hysteresis ≤ dp
  | .airflowLost, false => dp < d.ductLost
  | .airflowLost, true => (d.ductLost : Int) + d.hysteresis ≤ dp
  | .filterLoaded, false => (d.filterWarn : Int) < dp
  | .filterLoaded, true => dp ≤ (d.filterWarn : Int) - d.hysteresis
  | .filterClogged, false => (d.filterLimit : Int) < dp
  | .filterClogged, true => dp ≤ (d.filterLimit : Int) - d.hysteresis

/-- The sensor of a pressure condition (R170). -/
def condSensor : PressureCond → FumeSensor
  | .airflowLow | .airflowLost => .duct
  | .filterLoaded | .filterClogged => .filter

/-- The extraction's conditions are judged: its state is RUNNING, DEGRADED or LOST (R169). -/
abbrev judged (s : State) : Prop := s.exm.state = .running ∨ s.exm.state = .degraded ∨ s.exm.state = .lost

/-! ### The tables of the records' judgement -/

/-- One examined field: its offset, its size in bytes, and whether its value lies in its range. -/
abbrev FieldRow := Nat × Nat × Bool

/-- A field fails: it holds a byte of bad parity or a value out of its range. -/
def fieldFails (s : State) (base : Nat) (f : FieldRow) : Bool :=
  (firstBad s (span (base + f.1) f.2.1)).isSome || !f.2.2

/-- The first failing field in address order, with its first bad byte if parity fails it (R25, R32). -/
def firstFailure (s : State) (base : Nat) (l : List FieldRow) : Option FieldFailure :=
  (l.find? (fieldFails s base)).map fun f => { off := f.1, badByte := firstBad s (span (base + f.1) f.2.1) }

/-- The four fields of zone k of a profile; those of a disabled zone but its setpoint are not examined (section 2.3;
duties in steps of 5 ‰). -/
def zoneRows (s : State) (base k : Nat) : List FieldRow :=
  let o := 6 * k
  let sp := s.u16 (base + o)
  let hold := s.u8 (base + o + 4)
  let most := s.u8 (base + o + 5)
  (o, 2, decide (sp = 0 ∨ (500 ≤ sp ∧ sp ≤ 3500))) ::
    if sp = 0 then []
    else
      [(o + 2, 2, decide (10 ≤ s.u16 (base + (o + 2)) ∧ s.u16 (base + (o + 2)) ≤ 300)),
        (o + 4, 1, decide (hold ≤ 200)), (o + 5, 1, decide (most ≤ 200 ∧ hold ≤ most))]

/-- A field of a record at an offset whose value lies in a range, under a further condition. -/
def row16 (s : State) (base off lo hi : Nat) (also : Bool := true) : FieldRow :=
  (off, 2, decide (lo ≤ s.u16 (base + off) ∧ s.u16 (base + off) ≤ hi) && also)

/-- The same for a byte field. -/
def row8 (s : State) (base off lo hi : Nat) (also : Bool := true) : FieldRow :=
  (off, 1, decide (lo ≤ s.u8 (base + off) ∧ s.u8 (base + off) ≤ hi) && also)

/-- The examined fields of a line profile with the ranges of section 2.3, in address order (layout: section 11.7). -/
def profileRows (s : State) (base : Nat) : List FieldRow :=
  let b := fun off => s.u8 (base + off)
  let h := fun off => s.u16 (base + off)
  zoneRows s base 0 ++ zoneRows s base 1 ++ zoneRows s base 2 ++ zoneRows s base 3 ++ zoneRows s base 4 ++
    zoneRows s base 5 ++
    [row16 s base 36 5 600, row16 s base 38 2300 3000, row8 s base 40 10 100, row8 s base 41 0 200,
      row8 s base 42 0 200 (decide (b 41 ≤ b 42)), row8 s base 43 20 120,
      row16 s base 44 1800 2400 (decide (h 44 < h 38)), row16 s base 46 5 600, row8 s base 48 0 150,
      row8 s base 49 0 150, row8 s base 50 10 150, row8 s base 51 0 150,
      row16 s base 52 300 3000 (decide (h 52 ≤ s.u16 (0x400 + 36))), row16 s base 54 20 500, row16 s base 56 20 500,
      row16 s base 58 100 20000, row16 s base 60 60 3600]

/-- A level threshold of the machine description: −1,000 to 1,000 mm, above the one before it. -/
def levelRow (s : State) (off : Nat) (also : Bool := true) : FieldRow :=
  (off, 2, decide (-1000 ≤ s.i16 (0x400 + off) ∧ s.i16 (0x400 + off) ≤ 1000) && also)

/-- The fields of the machine description with the ranges of R32, in address order (layout: section 11.6). -/
def descriptionRows (s : State) : List FieldRow :=
  let b := fun off => s.u8 (0x400 + off)
  let h := fun off => s.u16 (0x400 + off)
  let i := fun off => s.i16 (0x400 + off)
  let row := fun off lo hi => row16 s 0x400 off lo hi
  [row 0 0 1000, row 2 20 200, row 4 0 6000, row 6 0 6000, row 8 100 1500, row 10 100 1500, row 12 100 1500,
    row 14 100 1500, row 16 100 1500, row 18 100 1500, row 20 0 6000, row 22 0 6000, row 24 10 200, row 26 0 6000,
    row 28 10 200, row 30 1 6000, row 32 10 200, row 34 1 255, row 36 300 3000, row 38 500 5000] ++
    [row8 s 0x400 40 0 1, row8 s 0x400 41 0 2, row8 s 0x400 42 0 3, row8 s 0x400 43 0 1, row8 s 0x400 44 1 32,
      row8 s 0x400 45 1 32, row8 s 0x400 46 1 32, row 48 100 1000, row 50 100 6000, row8 s 0x400 52 0x08 0x77,
      row8 s 0x400 53 0x08 0x77 (decide (b 52 ≠ b 53)), row 54 1 5000, row16 s 0x400 56 1 5000 (decide (h 56 < h 54)),
      row 58 1 5000, row16 s 0x400 60 1 5000 (decide (h 58 < h 60)), row 62 0 500, row 64 10 120, row 66 10 300,
      row 68 60 1800, row 70 50 500, row 72 100 2000, row 74 1 1000] ++
    [levelRow s 76, levelRow s 78 (decide (i 76 < i 78)), levelRow s 80 (decide (i 78 < i 80)),
      levelRow s 82 (decide (i 80 < i 82)), row 84 10 600, row8 s 0x400 86 0 3]

/-- The inequalities of the geometry order with the offsets of the fields they fail at (R33). -/
def geometryRows (s : State) : List (Bool × Nat) :=
  let h := fun off => s.u16 (0x400 + off)
  [(decide (h 0 + h 2 < h 4), 4), (decide (h 4 < h 6), 6),
    (decide (h 6 + (h 8 + h 10 + h 12 + h 14 + h 16 + h 18) ≤ h 20), 20), (decide (h 20 < h 22), 22),
    (decide (h 22 < h 26), 26), (decide ((h 26 : Int) + h 28 < (h 30 : Int) - h 32), 30), (decide (h 30 ≤ 6000), 30)]

/-- Every field of a recipe lies in its range, bands with at least one valve, each window's minimum not above its
maximum (section 2.1, R22). -/
def recipeRanged (s : State) (r : RecipeNo) : Prop :=
  let b := fun off => s.u8 (recipeBase r + off)
  let h := fun off => s.u16 (recipeBase r + off)
  b 6 ≤ 3 ∧ b 7 ≤ 1 ∧ (50 ≤ h 8 ∧ h 8 ≤ 660) ∧ (1 ≤ h 10 ∧ h 10 ≤ 50) ∧ (50 ≤ h 12 ∧ h 12 ≤ 480) ∧ b 14 ≤ 12 ∧
    (∀ x ∈ storedBands s r, x.load.valves ≠ 0 ∧ 100 ≤ x.load.duty ∧ x.load.duty ≤ 1000) ∧ h 112 ≤ 20000 ∧
    h 114 ≤ 20000 ∧ h 116 ≤ 4000 ∧ h 118 ≤ 4000 ∧ h 120 ≤ 300 ∧ h 122 ≤ 20000 ∧ h 124 ≤ 20000 ∧ h 112 ≤ h 114 ∧
    h 116 ≤ h 118 ∧ h 122 ≤ h 124

/-- Each band runs forwards, and none starts before the end of the one before it (R22). -/
def recipeOrdered (s : State) (r : RecipeNo) : Prop :=
  let l := storedBands s r
  (∀ x ∈ l, x.first < x.last) ∧ ∀ i x y, l[i]? = some x → l[i + 1]? = some y → x.last ≤ y.first

/-! ### Boards on the line -/

/-- The position of each stage event, with the edge it belongs to: of the leading edge, past the entry eye, or of the
trailing edge (R67). -/
def stageDue (d : Description) (lead : Nat) (trail : Option Nat) (x : Stage) : Prop :=
  let start := fun k : Nat => d.pZone1 + (d.zoneLen.toList.take k).sum
  let leads := fun p : Nat => lead ≠ 0 ∧ lead = p
  match x with
  | .scanStart => leads d.pScan
  | .scanEnd => leads (d.pScan + d.wScan)
  | .fluxIn => leads d.pFlux
  | .fluxOut => trail = some d.pFlux
  | .zoneIn z => leads (start z.val)
  | .zoneOut z => trail = some (start (z.val + 1))
  | .pyroIn => leads d.pPyro
  | .pyroOut => trail = some d.pPyro
  | .chipIn => leads d.pChip
  | .chipOut => trail = some (d.pChip + d.wChip)
  | .mainIn => leads d.pMain
  | .mainCross => leads (d.pMain + d.wMain)
  | .mainOut => trail = some (d.pMain + d.wMain)

/-- A board whose entry in the map names a docket that is ON_LINE. -/
def carries (s : State) (board : Word) (n : DocketNo) : Prop :=
  (∃ m, s.entryOf board = some m ∧ m.docket = some n) ∧ s.onLine n = true

/-- The bytes of a field of a docket's recipe are good. -/
def recipeGood (s : State) (n : DocketNo) (off len : Nat) : Prop :=
  ∀ a ∈ span (recipeBase (s.recipeOf n) + off) len, s.xmBad a = false

/-- A 16-bit field of a docket's recipe. -/
def recipeHalf (s : State) (n : DocketNo) (off : Nat) : Nat := s.u16 (recipeBase (s.recipeOf n) + off)

/-- A docket's 16-bit result field. -/
def resultHalf (s : State) (n : DocketNo) (off : Nat) : Half := s.halfAt (docketBase n + off)

/-- A docket's 32-bit result field. -/
def resultWord (s : State) (n : DocketNo) (off : Nat) : Word := resultHalf s n (off + 2) ++ resultHalf s n off

/-- A jam has been pulsed with its detail and docket, and the map discarded (R73). -/
def jamPulsed (s t : State) (detail : Half) (docket : Option DocketNo) : Prop :=
  t.alarm .boardJam = recordedAs s .boardJam .latched detail docket ∧ t.cvt.map = []

/-- A docket has a board: it is ON_LINE and named by the board's entry, with stage ENTERED and the entry's time and
travel (R50). -/
def boarded (t : State) (board : Word) (e : MapEntry) (n : DocketNo) : Prop :=
  t.docketState n = docketOnLine ∧ (∃ e', t.entryOf board = some e' ∧ e'.docket = some n) ∧
    t.byteAt (docketBase n + 34) = 1 ∧ resultWord t n 40 = e.entryTime ∧ resultWord t n 44 = e.tLead

/-- A board has been matched to a docket, which has left the arrival list (R50). -/
def matched (s t : State) (board : Word) (e : MapEntry) (n : DocketNo) : Prop :=
  boarded t board e n ∧ t.dkc.arrival = s.dkc.arrival.filter fun x => x != n

/-- A docket's ID is the one read (R47). -/
def isId (s : State) (id : List Byte) (n : DocketNo) : Prop := s.idLength n = id.length ∧ s.idChars n = id

/-- A docket's ID holds a bad byte (R48). -/
def badId (s : State) (n : DocketNo) : Bool := (s.idAddrs n).any s.xmBad

/-- A reason bit joins a docket's set exactly where a condition holds (R35). -/
def reasonIf (s t : State) (n : DocketNo) (bit : Half) (holds : Prop) [Decidable holds] : Prop :=
  t.reasons n = if holds then s.reasons n ||| bit else s.reasons n

/-- RECORD_PARITY: the reason in the docket, and the pulse with the bad byte's address (R120, R140). -/
def badRecord (s t : State) (n : DocketNo) (a : Nat) : Prop :=
  (t.reasons n).getLsbD 12 = true ∧
    t.alarm .recordParity = recordedAs s .recordParity .latched (BitVec.ofNat 16 a) (some n)

/-- A search for a read ID has examined some dockets of the arrival list and taken one, or none (R47). Those of bad ID
parity are refused: out of the list, pins lowered, reason PARITY, a RECORD_PARITY pulse each, and the first bad byte
captured (R48), as far as the taken docket's recipe adds no bad byte of its own. The one taken has the board, and with
none taken the board is unannounced. -/
def searched (s t : State) (board : Word) (e : MapEntry) (examined : List DocketNo) (taken : Option DocketNo) : Prop :=
  let refused := examined.filter (badId s)
  let bytes := refused.filterMap fun x => (firstBad s (s.idAddrs x)).map fun a => (x, BitVec.ofNat 16 a)
  let old := s.alarm .recordParity
  t.dkc.arrival = (s.dkc.arrival.filter fun x => !refused.contains x && taken != some x) ∧
    (∀ x ∈ refused, t.docketState x = docketRefused ∧ t.byteAt (docketBase x + 1) = 4) ∧
    (∀ x, x ∉ refused → taken ≠ some x → t.docketState x = s.docketState x) ∧
    (∀ r, (t.pins r).toNat = (s.pins r).toNat - (refused.filter fun x => s.recipeOf x == r).length) ∧
    (refused ≠ [] → t.hpx.attn.getLsbD 0 = true) ∧ (∀ n, taken = some n → boarded t board e n) ∧
    t.dkc.unannounced = (if taken = none then s.dkc.unannounced + 1 else s.dkc.unannounced) ∧
    ((∀ n, taken = some n → recipeGood s n 6 6) →
      t.hpx.parityAddr =
          (if s.hpx.parityAddr = 0xFFFF then (bytes.head?.map fun x => x.2).getD 0xFFFF else s.hpx.parityAddr) ∧
        t.alarm .recordParity =
          match bytes.getLast? with
          | none => old
          | some x =>
            { state := .latched, occurrences := BitVec.ofNat 16 (min 0xFFFF (old.occurrences.toNat + bytes.length)),
              detail := x.2, docket := some x.1, time := s.lineClock })

/-- The bytes that the validation of a recipe reads, in its order (R22). -/
def recipeReads (s : State) (r : RecipeNo) : List Nat :=
  let b := recipeBase r
  (b + 14) :: (span (b + 3) 11 ++
    (if s.u8 (b + 14) ≤ 12 then
      (List.range (s.u8 (b + 14))).flatMap fun k => span (b + 16 + 8 * k) 5 ++ span (b + 16 + 8 * k + 6) 2
    else []) ++
    span (b + 112) 14)

/-- The level state that a level has (R160). -/
def levelNamed (d : Description) (l : Int) : LevelState :=
  if d.highHigh ≤ l then .high else if l ≤ d.lowLow then .lowLow else if l ≤ d.feedOn then .low else .normal

/-- The feeder once R161 has been judged, with no FEED_SOLDER in flight. -/
def feederNamed (f : FeederState) (st : LevelState) (full allowed : Prop) [Decidable full] [Decidable allowed] :
    FeederState :=
  match f with
  | .idle => if (st = .low ∨ st = .lowLow) ∧ allowed then .feeding else .idle
  | .feeding => if full ∨ st = .unknown ∨ st = .high ∨ ¬ allowed then .idle else .feeding
  | .blocked => .blocked

/-- The duty of the control law in ‰: hold plus the error times 1,000 over the band, truncated towards zero, plus the
boost, held within 0 and the maximum (R136, R150). -/
def lawDuty (hold setpoint band : Nat) (temp : Int) (boost most : Nat) : Nat :=
  min (max 0 ((hold : Int) + Int.tdiv (((setpoint : Int) - temp) * 1000) band + boost)).toNat most

/-- A temperature lies in a band around a setpoint. -/
abbrev near (temp : Int) (setpoint band : Nat) : Prop := temp - setpoint ≤ band ∧ (setpoint : Int) - temp ≤ band

/-- A zone's state on a mode entry: FAULT with its sensor faulted, OFF without a setpoint, else SETTLING (R134). -/
def zoneEntered (r : Zone) (setpoint : Nat) : ZoneState :=
  if r.sensorFaulted then .fault else if setpoint = 0 then .off else .settling

/-- The pot's state on a mode entry: FAULT with a sensor fault, MELTING without a last good value of POT_A or with one
below the melt point, else HEATING (R147, R148). -/
def potEntered (p : Pot) (a : Option Half) (melt : Nat) : PotState :=
  if p.faultA || p.faultB || p.disagreement then .fault
  else
    match a with
    | none => .melting
    | some v => if v.toInt < (melt : Int) then .melting else .heating

/-- Every zone and the pot have entered a working mode under a profile: the states of R134 and R148, each with its
settle timer stopped, and the heaters off in OFF and FAULT (R133, R150). -/
def heatEntered (f : Profile) (s t : State) : Prop :=
  (∀ z, (t.zone z).state = zoneEntered (s.zone z) f.zones[z].setpoint ∧ (t.zone z).settle = none ∧
      ((t.zone z).state ≠ .settling → (t.zone z).heaterOn = false)) ∧
    t.ptc.pot.state = potEntered s.ptc.pot s.potA f.melt ∧ t.ptc.pot.settle = none ∧
    (t.ptc.pot.state = .fault → t.ptc.pot.heaterOn = false)

/-- A block's flag for a thermo channel after a frame: yes after a fault notice, no after a restore notice, else as
before (R113, R137, R151). -/
def noticed (fault restore : Prop) (before after : Bool) : Prop :=
  (fault → after = true) ∧ (restore → after = false) ∧ (¬ fault → ¬ restore → after = before)

/-- The largest load boost in a zone's occupancy set (R136). -/
def isBoost (l : List Occupant) (n : Nat) : Prop := (∀ o ∈ l, o.boost ≤ n) ∧ (n = 0 ∨ ∃ o ∈ l, o.boost = n)

/-- An entry's state after a clear claim (R81). -/
def clearedState : AlarmState → AlarmState
  | .active => .latched
  | .held => .quiet
  | .quiet => .quiet
  | .latched => .latched

/-- A condition alarm has been judged once between two states: with the condition there, the entry is the one that was
present already or an appearance recorded now with its detail; without it, the entry is cleared (R81, R83). -/
def alarmJudged (s t : State) (a : Alarm) (holds : Prop) (detail : Half) : Prop :=
  (holds → t.alarm a = if s.present a then s.alarm a else recordedAs s a .active detail none) ∧
    (¬ holds → t.alarm a = { s.alarm a with state := clearedState (s.alarm a).state })

/-- PRODUCTION, outside a changeover's SETTLE: where ZONE_DEVIATION and POT_NOT_READY speak (R139, R152). -/
def deviationSpeaks (s : State) : Prop :=
  s.amc.mode = .production ∧ ∀ ch, s.amc.changeover = some ch → ch.switchedAt = none

/-- A zone that makes ZONE_DEVIATION's condition: enabled, SETTLING or DEVIATION (R139). -/
def zoneOut (s : State) (z : ZoneNo) : Bool :=
  decide (0 < s.setpoint z ∧ ((s.zone z).state = .settling ∨ (s.zone z).state = .deviation))

/-- A zone that makes ZONE_SENSOR's condition: enabled, in FAULT (R137). -/
def zoneDown (s : State) (z : ZoneNo) : Bool := decide (0 < s.setpoint z ∧ (s.zone z).state = .fault)

/-- ZONE_DEVIATION's condition (R139). -/
def zonesDeviate (s : State) : Prop := deviationSpeaks s ∧ ∃ z, zoneOut s z = true

/-- ZONE_SENSOR's condition (R137). -/
def zonesFault (s : State) : Prop := ∃ z, zoneDown s z = true

/-- The number of the lowest zone with a property, 1 to 6. -/
def lowestZone (p : ZoneNo → Bool) : Nat := (((List.finRange 6).find? p).map fun z => z.val + 1).getD 0

/-- ZONE_DEVIATION judged, with the lowest such zone as its detail (R139). -/
def deviationJudged (s t : State) : Prop :=
  alarmJudged s t .zoneDeviation (zonesDeviate t) (BitVec.ofNat 16 (lowestZone (zoneOut t)))

/-- ZONE_SENSOR judged: its detail is 10 times the lowest such zone's number plus that zone's fault code (R137). -/
def zoneSensorJudged (s t : State) : Prop :=
  ∀ z, ((∀ y, zoneDown t y = false) ∨ (zoneDown t z = true ∧ ∀ y, y < z → zoneDown t y = false)) →
    alarmJudged s t .zoneSensor (zonesFault t) (BitVec.ofNat 16 (10 * (z.val + 1) + (t.zone z).faultCode))

/-- POT_NOT_READY's condition (R152). -/
def potUnready (s : State) : Prop :=
  deviationSpeaks s ∧ (s.ptc.pot.state = .melting ∨ s.ptc.pot.state = .heating ∨ s.ptc.pot.state = .deviation)

/-- POT_NOT_READY judged: its detail is POT_A's last good value, and free without one (R152; assumption log, entry
13). -/
def potReadyJudged (s t : State) : Prop :=
  ∃ h, (∀ v, t.potA = some v → h = v) ∧ alarmJudged s t .potNotReady (potUnready t) h

/-- WAVE_PUMP_SPEED's condition (R155). -/
def pumpsOff (s : State) : Prop := s.amc.mode = .production ∧ ∃ p, (s.pump p).state = .offSpeed

/-- WAVE_PUMP_STALL's condition (R156). -/
def pumpsStalled (s : State) : Prop := ∃ p, (s.pump p).state = .stalled

/-- The pump that an alarm names after a change of pump p's state, 1 for CHIP and 2 for MAIN: p itself where it is in
that state, else the other (R155, R156). -/
def pumpNamed (t : State) (p : PumpId) (st : DriveState) : Half :=
  match p with
  | .chip => if t.ptc.chip.state = st then 1 else 2
  | .main => if t.ptc.main.state = st then 2 else 1

/-- The conditions that a change of mode has judged are present exactly where they hold (R137, R139, R152, R155,
R156). -/
def modeConditions (t : State) : Prop :=
  (t.present .zoneDeviation = true ↔ zonesDeviate t) ∧ (t.present .zoneSensor = true ↔ zonesFault t) ∧
    (t.present .potNotReady = true ↔ potUnready t) ∧ (t.present .wavePumpSpeed = true ↔ pumpsOff t) ∧
    (t.present .wavePumpStall = true ↔ pumpsStalled t)

/-- The grace timer after an event: started where the state has entered LOST, stopped where it has left it (R172). -/
def graceAfter (s t : State) : GraceTimer :=
  if t.exm.state = .lost then (if s.exm.state = .lost then s.exm.grace else .running s.amc.ticks)
  else if s.exm.state = .lost then .stopped else s.exm.grace

/-- A grant to a claim: COUNTING at once in mode OPEN, else ARMED, its count 0, with the armed time of now (R102 to
R104). -/
def granted (s : State) (k : Claim) : CountUnit :=
  { claim := k, counting := k.mode == .opened, armed := s.amc.ticks, openedAt := s.amc.ticks, count := 0 }

/-- DIAG's own claim (R109). -/
def diagClaim (src : Source) (m : CountMode) : Claim :=
  { source := src, mode := m, claimant := .diag, follower := false, merged := false }

/-- What a block claims again when its claim has ended: a pump's tachometer while its command is above 0 or its state is
not STOPPED, the fan's while the fan is on (R108, R154, R168). -/
def placedAgain (s : State) (k : Claim) : List Claim :=
  match k.claimant, k.source with
  | .ptc, .tachChip =>
    if 0 < s.ptc.chip.command ∨ s.ptc.chip.state ≠ .stopped then [blockClaim .tachChip (.rate 500) .ptc] else []
  | .ptc, .tachMain =>
    if 0 < s.ptc.main.command ∨ s.ptc.main.state ≠ .stopped then [blockClaim .tachMain (.rate 500) .ptc] else []
  | .exm, .tachFan => if s.exm.fanOn then [blockClaim .tachFan (.rate 1000) .exm] else []
  | _, _ => []

/-- The RATE claim that a FLOW claim preempts: of the latest armed time, in the lowest unit among equals (R106). -/
def preempted (s : State) (u : UnitNo) (c : CountUnit) : Prop :=
  s.unit u = some c ∧ c.claim.mode.isRate = true ∧ (∀ v, s.unit v ≠ none) ∧
    ∀ v k, s.unit v = some k → k.claim.mode.isRate = true →
      k.armed < c.armed ∨ (k.armed = c.armed ∧ u.val ≤ v.val)

/-- A TACH_FAN claim in a unit is its source's only one (R100), and EXM's is the RATE claim of R168. -/
def fanClaimed (s : State) : Prop :=
  ∀ u c, s.unit u = some c → c.claim.source = .tachFan →
    SoleClaim s u .tachFan ∧
      (c.claim.claimant = .exm →
        c.claim = { blockClaim .tachFan (.rate 1000) .exm with follower := c.claim.follower })

/-- PTC's own SPAN claim of ECHO, alone of its source, stands in a unit (R159). -/
def echoClaimed (s : State) (u : UnitNo) (c : CountUnit) : Prop :=
  s.unit u = some c ∧ SoleClaim s u .echo ∧
    c.claim = { blockClaim .echo .span .ptc with follower := c.claim.follower }

/-- A command that ends an ECHO claim without OK: no edge, or an overrange (R104; the tick bounds: assumption log, entry
21). -/
def echoFails (s : State) (c : CountUnit) (x : Instr) : Prop :=
  (c.counting = false ∧ c.armed + 30 ≤ s.amc.ticks ∧ x = .spanNoEdge .echo) ∨
    (c.counting = true ∧ c.openedAt + 25 ≤ s.amc.ticks ∧ x = .spanOverrange .echo) ∨
    (c.counting = true ∧ ∃ us, 25000 < us ∧ x = .spanFallingEdge .echo us)

/-- The quiet rule: MAIN is RAMPING, or left RAMPING within the last 2,000 ms (R159; 2,000 ms itself quiet: assumption
log, entry 21). -/
def quietEcho (s : State) : Prop :=
  s.ptc.main.state = .ramping ∨ ∃ t0, s.ptc.mainLeftRamping = some t0 ∧ s.amc.ticks ≤ t0 + 2000

/-- The level average with one more distance, at most 8 held (R159). -/
def averaged (l : List Nat) (x : Nat) : List Nat := (l ++ [x]).drop (l.length + 1 - 8)

/-- The bytes that only the host writes (the table of section 1.2): the code, tag and arguments of a cell, the machine
description, the line profiles, the host part of a recipe and of a docket, and the host area. -/
def hostOwned (a : Nat) : Prop :=
  (0x300 ≤ a ∧ a < 0x400 ∧ 2 ≤ a % 32 ∧ a % 32 < 16) ∨ (0x400 ≤ a ∧ a < 0x600) ∨
    (0x600 ≤ a ∧ a < 0xE00 ∧ 3 ≤ a % 128) ∨ (0xE00 ≤ a ∧ a < 0x2600 ∧ 2 ≤ a % 128 ∧ a % 128 < 34) ∨ 0x2600 ≤ a

end Sys2Proof.Says

open Sys2Proof.Says

/-! ### The queue, power-on and the ends of the resets -/

/-- A step takes the command at the front of the queue and runs it on the queue's rest; on an empty queue the part
idles (the model's own queue: assumption log, entry 1). -/
def Obligations.StepTakesTheFront : Prop :=
  (∀ (c : Instr) (q : List Instr) (s : State), s.pending = c :: q → step s = exec c (s.withPending q)) ∧
    ∀ s : State, s.pending = [] → step s = .next s

/-- Every command of the table goes on to a next state, none faults and none is refused; it leaves every part of the
state outside its frame as it was, and stores to no byte of the records or the host area, good parity or data, but
those of its own row: a host write to its enabled bytes, a ruling to its record, a request to its own cell, and the
blocks' and the line's acts to the cells of requests in flight and to the dockets they work on. The frames are read
from the rules of all chapters together, and that no command stops is the model's choice where an event's guard does
not hold (assumption log, entry 4). -/
def Obligations.EveryCommandKeepsItsFrame : Prop :=
  ∀ (c : Instr) (s : State), Instr.wf c = true →
    ∃ t, exec c s = .next t ∧ framed c s t ∧ t.pending = s.pending ∧
      ∀ a, ¬ stored c s a → t.byteAt a = s.byteAt a ∧ t.xmBad a = s.xmBad a

/-- The part right after reset holds the power-on values of the manual, and has what every step keeps. The empty queue
is the model's own (assumption log, entry 1). -/
def Obligations.ResetHoldsPowerOnValues : Prop :=
  let s := State.reset
  s.hpx.phase = .initialising ∧ s.hpx.slot = none ∧ s.hpx.refusal = ⟨0, 0, .none⟩ ∧ s.hpx.parityAddr = 0xFFFF ∧
    s.hpx.parityInvert = false ∧ s.hpx.attn = 0 ∧ s.hpx.attnMask = 0 ∧ s.attnLine = false ∧
    (∀ a, s.byteAt a = 0 ∧ s.xmBad a = false) ∧
    s.dkc.arrival = [] ∧ s.dkc.unannounced = 0 ∧ s.dkc.window = none ∧ s.dkc.buffer = [] ∧
    s.cvt.travel = 0 ∧ s.cvt.residue = 0 ∧ s.cvt.map = [] ∧ s.cvt.drive = .stopped ∧ s.cvt.reference = 0 ∧
    s.amc.mode = .config ∧ s.amc.activeProfile = 0 ∧ s.lineClock = 0 ∧ s.amc.inForce = none ∧
    (∀ a, s.alarm a = ⟨.quiet, 0, 0, none, 0⟩) ∧ s.condition = .normal ∧ s.conveyorStop = false ∧ s.beacon = .dark ∧
    s.horn = false ∧ s.amc.chainOpen = false ∧ s.amc.chainCount = 0 ∧
    (∀ u, s.unit u = none) ∧ s.cta.queue = [] ∧ (∀ i : Fin 7, s.cta.results[i] = ⟨none, .none, none, 0⟩) ∧
    s.fxc.valves = 0 ∧ s.fxc.pressureOk = true ∧ s.fxc.tankHigh = true ∧ s.fxc.board = none ∧ s.fxc.purge = none ∧
    (∀ z, (s.zone z).state = .off ∧ (s.zone z).heaterOn = false ∧ (s.zone z).activeDuty = 0) ∧
    s.ptc.pot.state = .off ∧ s.ptc.pot.heaterOn = false ∧ (∀ p, s.pump p = Pump.fresh) ∧ s.ptc.levelState = .unknown ∧
    s.ptc.feeder = .idle ∧ s.exm.fanOn = false ∧ s.exm.state = .off ∧ s.pending = [] ∧
    Memory.wf s.xm = true ∧ modeLegal s ∧ pulsesLegal s ∧ stopHolds s ∧ requestsLegal s ∧ outputsLegal s ∧
    trackingLegal s

/-- POWER_ON gives the power-on state, with every byte of the records and the host area 0 and good, from every state.
The levels of the neighbours' lines are inputs and stand (assumption log, entry 3), as do the model's counter and
queue. The end of power-on initialisation sets ATTN.MODE and opens the port; the end of a host-reset sweep sets ATTN
to MODE alone and opens the port. Nothing else changes. -/
def Obligations.PowerOnAndTheEndsOfTheResets : Prop :=
  (∀ s : State, ∃ t, exec .powerOn s = .next t ∧
      t = { State.reset with
              cvt := { State.reset.cvt with upOffer := s.cvt.upOffer, dnAccept := s.cvt.dnAccept },
              free := s.free, pending := s.pending } ∧
      ∀ a, t.byteAt a = 0 ∧ t.xmBad a = false) ∧
  ((∀ s : State, s.hpx.phase = .initialising →
      exec .powerOnInitEnd s = .next { s with hpx := { s.hpx with phase := .running, attn := s.hpx.attn ||| 0x08 } }) ∧
    ∀ s : State, s.hpx.phase = .sweeping →
      exec .hostResetSweepEnd s = .next { s with hpx := { s.hpx with phase := .running, attn := 0x08 } })

/-- While power-on initialisation or a sweep is in progress, every host access is answered RETRY and has no effect. An
access that enables no byte is answered READY; a read returns 0x0000, and nothing is stored or checked. That RETRY
carries no data is the model's reading (assumption log, entry 9). -/
def Obligations.AccessesWithoutEffect : Prop :=
  (∀ (c : Instr) (s : State), hostAccess c = true → s.hpx.phase ≠ .running →
    exec c s = .next { s with hpx := { s.hpx with answer := some { term := .retry, data := none } } }) ∧
    ∀ (a d : Half) (s : State), s.hpx.phase = .running →
      let none2 : Enables := { lo := false, hi := false }
      exec (.hostRead a none2) s =
          .next { s with hpx := { s.hpx with answer := some { term := .ready, data := some 0 } } } ∧
        exec (.hostWrite a none2 d) s =
          .next { s with hpx := { s.hpx with answer := some { term := .ready, data := none } } }

/-! ### Host accesses -/

/-- A host read of exchange memory returns the halfword: READY where every enabled byte is good; FAULT where one is
bad, and the first bad one, the even address first, is captured where PARITY_ADDR is empty, with ATTN.PARITY. -/
def Obligations.HostReadChecksParity : Prop :=
  ∀ (a : Half) (en : Enables) (s : State), s.hpx.phase = .running → a.toNat < 0x4000 → anyByte en →
    ((∀ b ∈ enabledBytes a.toNat en, s.xmBad b = false) →
      exec (.hostRead a en) s =
        .next { s with hpx := { s.hpx with answer := some { term := .ready, data := some (s.xmHalf a.toNat) } } }) ∧
    ∀ b, (enabledBytes a.toNat en).find? s.xmBad = some b →
      exec (.hostRead a en) s =
        .next { s with
                  hpx := { s.hpx with
                             answer := some { term := .fault, data := some (s.xmHalf a.toNat) },
                             parityAddr := if s.hpx.parityAddr = 0xFFFF then BitVec.ofNat 16 b else s.hpx.parityAddr,
                             attn := if s.hpx.parityAddr = 0xFFFF then s.hpx.attn ||| 0x20 else s.hpx.attn } }

/-- The eight registers read as the manual lists them, without a parity check; a read of an unmapped address is
answered FAULT; neither changes any other state. A read of the status page or the alarm table is answered READY with
the two bytes there, and those bytes are the fields of sections 11.3 and 11.4 as the blocks hold them. That the pages
are computed from the state is the model's form (assumption log, entry 2). -/
def Obligations.HostReadOfRegisters : Prop :=
  ∀ (en : Enables) (s : State), s.hpx.phase = .running → anyByte en →
    let reads := fun (a v : Half) =>
      exec (.hostRead a en) s =
        .next { s with hpx := { s.hpx with answer := some { term := .ready, data := some v } } }
    reads 0xFF00 0x4610 ∧ reads 0xFF02 (if s.hpx.parityInvert then 2 else 0) ∧
      reads 0xFF04 (s.hpx.attn.zeroExtend 16) ∧ reads 0xFF06 (s.hpx.attnMask.zeroExtend 16) ∧
      reads 0xFF08 s.hpx.refusal.addr ∧ reads 0xFF0A s.hpx.refusal.data ∧
      reads 0xFF0C s.hpx.refusal.reason.code ∧ reads 0xFF0E s.hpx.parityAddr ∧
      (∀ a : Half, Instr.evenAddr a = true → 0x4000 ≤ a.toNat → Instr.isRegister a = false →
        exec (.hostRead a en) s =
          .next { s with hpx := { s.hpx with answer := some { term := .fault, data := some 0 } } }) ∧
      (Memory.wf s.xm = true →
        reads 0x0000 (codeByte s.condition.code ++ codeByte s.amc.mode.code) ∧
          reads 0x0002 (codeByte s.changeoverPhase ++ s.amc.activeProfile) ∧
          reads 0x0004 (s.lineClock.extractLsb' 0 16) ∧ reads 0x0006 (s.lineClock.extractLsb' 16 16) ∧
          reads 0x0008 (s.cvt.travel.extractLsb' 0 16) ∧ reads 0x000A (s.cvt.travel.extractLsb' 16 16) ∧
          reads 0x000C (BitVec.ofNat 16 s.cvt.measuredSpeed) ∧
          reads 0x000E (codeByte s.cvt.map.length ++ codeByte s.cvt.drive.code) ∧
          reads 0x0010 (s.linesByte ++ codeByte s.dkc.arrival.length) ∧
          reads 0x0012 (docketByte (s.fxc.board.map (·.docket)) ++ codeByte s.fluxState) ∧
          reads 0x0014 ((0 : Byte) ++ codeByte s.purgePhase) ∧
          (∀ z : ZoneNo, ∀ k : Fin 8, k.val = z.val →
            reads (BitVec.ofNat 16 (0x16 + 6 * z.val)) (s.channelTemp k) ∧
              reads (BitVec.ofNat 16 (0x18 + 6 * z.val)) (BitVec.ofNat 16 (s.zone z).activeDuty) ∧
              reads (BitVec.ofNat 16 (0x1A + 6 * z.val)) ((0 : Byte) ++ codeByte (s.zone z).state.code)) ∧
          reads 0x003A (s.channelTemp 6) ∧ reads 0x003C (s.channelTemp 7) ∧
          reads 0x003E (codeByte s.ptc.levelState.code ++ codeByte s.ptc.pot.state.code) ∧
          reads 0x0040 (BitVec.ofNat 16 s.ptc.chip.command) ∧ reads 0x0042 (s.ptc.chip.measured.getD 0xFFFF) ∧
          reads 0x0044 (BitVec.ofNat 16 s.ptc.main.command) ∧ reads 0x0046 (s.ptc.main.measured.getD 0xFFFF) ∧
          reads 0x0048 (codeByte s.ptc.main.state.code ++ codeByte s.ptc.chip.state.code) ∧
          reads 0x004A s.levelHalf ∧ reads 0x004C (BitVec.ofNat 16 (s.ptc.workingRef.getD 0)) ∧
          reads 0x004E (codeByte s.exm.state.code ++ codeByte s.ptc.feeder.code) ∧
          reads 0x0050 (s.exm.ductDp.getD 0xFFFF) ∧ reads 0x0052 (s.exm.filterDp.getD 0xFFFF) ∧
          reads 0x0054 (s.exm.fanRpm.getD 0xFFFF) ∧ reads 0x0056 s.graceRemaining ∧
          (∀ i : Fin 7, ∀ r, s.cta.results[i] = r →
            reads (BitVec.ofNat 16 (0x60 + 12 * i.val)) ((r.value.getD 0xFFFFFFFF).extractLsb' 0 16) ∧
              reads (BitVec.ofNat 16 (0x62 + 12 * i.val)) ((r.value.getD 0xFFFFFFFF).extractLsb' 16 16) ∧
              reads (BitVec.ofNat 16 (0x64 + 12 * i.val)) ((r.time.getD 0xFFFFFFFF).extractLsb' 0 16) ∧
              reads (BitVec.ofNat 16 (0x66 + 12 * i.val)) ((r.time.getD 0xFFFFFFFF).extractLsb' 16 16) ∧
              reads (BitVec.ofNat 16 (0x68 + 12 * i.val)) (r.seq ++ codeByte r.status.code)) ∧
          ∀ a : Alarm, ∀ e, s.alarm a = e →
            reads (BitVec.ofNat 16 (0x100 + 16 * a.id.val)) (codeByte e.state.code ++ codeByte a.id.val) ∧
              reads (BitVec.ofNat 16 (0x102 + 16 * a.id.val))
                (codeByte (a.stopsConveyor.toNat + 2 * a.isPulse.toNat) ++ codeByte a.cls.code) ∧
              reads (BitVec.ofNat 16 (0x104 + 16 * a.id.val)) e.occurrences ∧
              reads (BitVec.ofNat 16 (0x106 + 16 * a.id.val)) e.detail ∧
              reads (BitVec.ofNat 16 (0x108 + 16 * a.id.val)) ((0 : Byte) ++ docketByte e.docket) ∧
              reads (BitVec.ofNat 16 (0x10A + 16 * a.id.val)) (e.time.extractLsb' 0 16) ∧
              reads (BitVec.ofNat 16 (0x10C + 16 * a.id.val)) (e.time.extractLsb' 16 16))

/-- A plain host write that no reason refuses stores its enabled bytes with the parity CONTROL chooses, is answered
READY, and changes no other byte and no other state, but for the active profile index, which in CONFIG follows the
initial profile field. -/
def Obligations.HostWriteStores : Prop :=
  ∀ (a : Half) (en : Enables) (d : Half) (s : State),
    Instr.wf (.hostWrite a en d) = true → s.hpx.phase = .running → a.toNat < 0x4000 → anyByte en →
    writeRefusal s a.toNat en = .none →
    ∃ t, exec (.hostWrite a en d) s = .next t ∧
      (∀ x, t.byteAt x =
        if en.lo = true ∧ x = a.toNat then d.extractLsb' 0 8
        else if en.hi = true ∧ x = a.toNat + 1 then d.extractLsb' 8 8 else s.byteAt x) ∧
      (∀ x, t.xmBad x =
        if (en.lo = true ∧ x = a.toNat) ∨ (en.hi = true ∧ x = a.toNat + 1) then s.hpx.parityInvert else s.xmBad x) ∧
      t = { s with
              hpx := { s.hpx with answer := some { term := .ready, data := none } },
              amc := { s.amc with
                         activeProfile :=
                           if en.lo = true ∧ a = 0x456 ∧ s.amc.mode = .config then d.extractLsb' 0 8
                           else s.amc.activeProfile },
              xm := t.xm }

/-- A refused plain write, of exchange memory or of an unmapped address, is answered FAULT, stores nothing, and fills
an empty refusal record with its address, data and reason, setting ATTN.REFUSAL; an occupied record stays. -/
def Obligations.HostWriteRefused : Prop :=
  ∀ (a : Half) (en : Enables) (d : Half) (r : RefusalReason) (s : State),
    Instr.wf (.hostWrite a en d) = true → s.hpx.phase = .running → anyByte en →
    ((a.toNat < 0x4000 ∧ writeRefusal s a.toNat en = r ∧ r ≠ .none) ∨
      (0x4000 ≤ a.toNat ∧ r = .unmapped)) →
    exec (.hostWrite a en d) s =
      .next { s with
                hpx := { s.hpx with
                           refusal := offered s.hpx.refusal a d r,
                           attn := attnOffered s.hpx.refusal s.hpx.attn,
                           answer := some { term := .fault, data := none } } }

/-- The refusal reason of a plain write, region by region. A write that enables a byte only the part writes is
PROTECTED: of the status page, the alarm table, the upper byte of a watched word, a cell's result and replies, a
recipe's reason and pin count, a docket's controller part. Otherwise: the machine description is NOT_CONFIG outside
CONFIG; a line profile is PROFILE_IN_USE while it is the active one or the target of a changeover, and else open; a
host part is LOCKED but for a cell IDLE or DONE, a recipe EMPTY, a docket FREE; the host area is never refused. -/
def Obligations.RefusalReasonsByRegion : Prop :=
  ∀ (a : Half) (en : Enables) (d : Half) (s : State),
    Instr.wf (.hostWrite a en d) = true → a.toNat < 0x4000 → anyByte en →
    let n := a.toNat
    let partByte := fun b : Nat =>
      b < 0x300 ∨ (0x300 ≤ b ∧ b < 0x400 ∧ (b % 32 = 1 ∨ 16 ≤ b % 32)) ∨
        (0x600 ≤ b ∧ b < 0xE00 ∧ (b % 128 = 1 ∨ b % 128 = 2)) ∨
        (0xE00 ≤ b ∧ b < 0x2600 ∧ (b % 128 = 1 ∨ 34 ≤ b % 128))
    let shut := (en.lo = true ∧ partByte n) ∨ (en.hi = true ∧ partByte (n + 1))
    (shut → writeRefusal s n en = .protectedBytes) ∧
    (0x400 ≤ n ∧ n < 0x500 → writeRefusal s n en = if s.amc.mode = .config then .none else .notConfig) ∧
    (0x500 ≤ n ∧ n < 0x600 →
      let used := (n - 0x500) / 64 = s.amc.activeProfile.toNat ∨
        ∃ c, s.amc.changeover = some c ∧ c.target.val = (n - 0x500) / 64
      (used → writeRefusal s n en = .profileInUse) ∧ (¬ used → writeRefusal s n en = .none)) ∧
    (0x300 ≤ n ∧ n < 0x400 → ¬ shut →
      let st := s.byteAt (n - n % 32)
      writeRefusal s n en = if st = cellIdle ∨ st = cellDone then .none else .locked) ∧
    (0x600 ≤ n ∧ n < 0xE00 → ¬ shut →
      writeRefusal s n en = if s.byteAt (n - n % 128) = recipeEmpty then .none else .locked) ∧
    (0xE00 ≤ n ∧ n < 0x2600 → ¬ shut →
      writeRefusal s n en = if s.byteAt (n - n % 128) = docketFree then .none else .locked) ∧
    (0x2600 ≤ n → writeRefusal s n en = .none)

/-- A watched write that finds the slot and the refusal record empty is latched and answered RETRY, and nothing is
stored. With the slot occupied: an identical write is answered RETRY while the slot is LATCHED, and gets the outcome,
which empties the slot, once it is RULED; any other is answered RETRY while the refusal record is empty. A RULED slot
empties at the second millisecond tick after its ruling (R10), and nothing else changes: the ruling's effect stands;
before that tick, and while the slot is LATCHED, it stays. That the row of the expiry changes nothing where it is not
due is the model's choice (assumption log, entry 4). -/
def Obligations.WatchedWriteUsesTheSlot : Prop :=
  (∀ (a : Half) (en : Enables) (d : Half) (s : State),
    Instr.wf (.watchedWrite a en d) = true → s.hpx.phase = .running →
    let answered := fun (slot : Option PendingWrite) (term : Termination) =>
      exec (.watchedWrite a en d) s =
        .next { s with hpx := { s.hpx with slot := slot, answer := some { term := term, data := none } } }
    let same := fun w : PendingWrite => w.addr = a ∧ w.en = en ∧ w.data = d
    (s.hpx.slot = none → s.hpx.refusal.reason = .none →
      answered (some { addr := a, en := en, data := d, progress := .latched }) .retry) ∧
      (∀ w, s.hpx.slot = some w → same w →
        (w.progress = .latched → answered (some w) .retry) ∧
          ∀ ok n, w.progress = .ruled ok n → answered none (if ok then .ready else .fault)) ∧
      ∀ w, s.hpx.slot = some w → ¬ same w → s.hpx.refusal.reason = .none → answered (some w) .retry) ∧
  ∀ (s : State) (w : PendingWrite), s.hpx.slot = some w →
    (∀ ok n, w.progress = .ruled ok n →
      (n + 2 ≤ s.amc.ticks → exec .pendingSlotExpiry s = .next { s with hpx := { s.hpx with slot := none } }) ∧
        (s.amc.ticks < n + 2 → exec .pendingSlotExpiry s = .next s)) ∧
    (w.progress = .latched → exec .pendingSlotExpiry s = .next s)

/-- While the refusal record is occupied, a watched write not identical to the one in the slot is answered FAULT and
changes nothing else, whether the slot is empty or occupied; a write of any value to REFUSAL_REASON is always taken
and empties the record, so that the next watched write may be latched (R11). That REFUSAL_REASON acts with either byte
enabled, the upper one alone too, is the model's reading (assumption log, entry 9). -/
def Obligations.OccupiedRefusalRecordShutsTheSlot : Prop :=
  ∀ (a : Half) (en : Enables) (d : Half) (s : State), s.hpx.phase = .running → s.hpx.refusal.reason ≠ .none →
    (Instr.wf (.watchedWrite a en d) = true →
      (∀ w, s.hpx.slot = some w → ¬ (w.addr = a ∧ w.en = en ∧ w.data = d)) →
      exec (.watchedWrite a en d) s =
        .next { s with hpx := { s.hpx with answer := some { term := .fault, data := none } } }) ∧
    (anyByte en →
      exec (.refusalReasonWrite en d) s =
        .next { s with
                  hpx := { s.hpx with
                             refusal := { addr := 0, data := 0, reason := .none },
                             answer := some { term := .ready, data := none } } })

/-- Register writes act on the enabled bytes only and are answered READY: ATTN clears the classes written 1, ATTN_MASK
is stored, PARITY_ADDR becomes 0xFFFF, PARITY_INVERT is stored, the read-only registers discard the write, and
REFUSAL_REASON empties the refusal record. The attention line is active while some class is set in both ATTN and
ATTN_MASK. That REFUSAL_REASON and PARITY_ADDR act with either byte enabled is the
model's reading (assumption log, entry 9). -/
def Obligations.RegisterWrites : Prop :=
  ∀ (en : Enables) (d : Half) (s : State), s.hpx.phase = .running →
    let ready : Option Answer := some { term := .ready, data := none }
    exec (.attnWrite en d) s =
        .next { s with
                  hpx := { s.hpx with
                             attn := if en.lo then s.hpx.attn &&& ~~~(d.extractLsb' 0 6) else s.hpx.attn,
                             answer := ready } } ∧
      exec (.attnMaskWrite en d) s =
        .next { s with
                  hpx := { s.hpx with
                             attnMask := if en.lo then d.extractLsb' 0 6 else s.hpx.attnMask, answer := ready } } ∧
      exec (.parityAddrWrite en d) s =
        .next { s with
                  hpx := { s.hpx with
                             parityAddr := if en.lo || en.hi then 0xFFFF else s.hpx.parityAddr, answer := ready } } ∧
      exec (.refusalReasonWrite en d) s =
        .next { s with
                  hpx := { s.hpx with
                             refusal := if en.lo || en.hi then ⟨0, 0, .none⟩ else s.hpx.refusal,
                             answer := ready } } ∧
      (Instr.wf (.parityInvert en d) = true →
        exec (.parityInvert en d) s =
          .next { s with
                    hpx := { s.hpx with
                               parityInvert := if en.lo then d.getLsbD 1 else s.hpx.parityInvert,
                               answer := ready } }) ∧
      (∀ reg, exec (.registerWriteDiscarded reg en d) s = .next { s with hpx := { s.hpx with answer := ready } }) ∧
      (s.attnLine = true ↔ ∃ k, k < 6 ∧ s.hpx.attn.getLsbD k = true ∧ s.hpx.attnMask.getLsbD k = true)

/-- A write of 1 to CONTROL.RESET starts the sweep: HPX's own state is emptied with ATTN_MASK kept, the mode is
CONFIG with ATTN.MODE and ATTN.ALARM set, every alarm is QUIET with its counts 0 unless a condition judged afresh has
just appeared in it, the requests in flight and the conveyor map are gone, the valves are closed, the heaters off, the
pumps and the drive at 0, no counter unit is held and no claim waits but for the fan's own, the extraction's conditions
are absent and its state STARTING still, RUNNING while the fan is on, or OFF, unless a link fault stands, a fan that is
on goes into run-on, or begins it again, with its output kept (R168, R173), and the line clock and the description in
force stand. That the sweep is taken whole at this command is the model's choice (assumption log, entry 8), and that
the clear timer is stopped with the confirmation, stall and grace timers, which alone R173 names, is its reading
(DEDUCED; the same entry). -/
def Obligations.ControlResetSweepsTheBlocks : Prop :=
  ∀ (en : Enables) (d : Half) (s : State), Instr.wf (.controlReset en d) = true → s.hpx.phase = .running →
    ∃ t, exec (.controlReset en d) s = .next t ∧
      t.hpx.phase = .sweeping ∧ t.hpx.answer = some { term := .ready, data := none } ∧ t.hpx.slot = none ∧
      t.hpx.refusal = ⟨0, 0, .none⟩ ∧ t.hpx.parityAddr = 0xFFFF ∧ t.hpx.parityInvert = false ∧
      t.hpx.attnMask = s.hpx.attnMask ∧ t.hpx.handed = [] ∧
      t.dkc.arrival = [] ∧ t.dkc.unannounced = 0 ∧ t.dkc.window = none ∧ t.dkc.rxHeld = none ∧
      t.amc.mode = .config ∧ t.amc.finish = none ∧ t.amc.changeover = none ∧ t.amc.chainOpen = false ∧
      t.amc.activeProfile = s.initialProfileByte ∧ t.amc.ticks = s.amc.ticks ∧ t.amc.inForce = s.amc.inForce ∧
      t.cvt.map = [] ∧ t.cvt.reference = 0 ∧ t.cvt.drive = .stopped ∧ t.cvt.travel = s.cvt.travel ∧
      t.cta.measure = none ∧ t.fxc.board = none ∧ t.fxc.purge = none ∧ t.fxc.valves = 0 ∧
      t.ptc.calibrate = none ∧ t.ptc.feed = none ∧ t.ptc.chip.command = 0 ∧ t.ptc.main.command = 0 ∧
      t.ptc.pot.state = .off ∧ t.ptc.pot.heaterOn = false ∧ t.ptc.feeder = .idle ∧
      (∀ z, (t.zone z).state = .off ∧ (t.zone z).heaterOn = false) ∧ t.exm.fanOn = s.exm.fanOn ∧
      t.exm.runOn = (if s.exm.fanOn then some s.amc.ticks else s.exm.runOn) ∧
      t.hpx.attn.getLsbD 2 = true ∧ t.hpx.attn.getLsbD 3 = true ∧
      (∀ a, a ∉ [Alarm.extractSensorLink, .zoneOvertemp, .potSensor, .potOvertemp, .levelEchoLost, .solderLevelLow,
          .solderLevelHigh] → t.alarm a = ⟨.quiet, 0, 0, none, 0⟩) ∧
      (∀ a, t.alarm a = ⟨.quiet, 0, 0, none, 0⟩ ∨ ((t.alarm a).state = .active ∧ (t.alarm a).occurrences = 1)) ∧
      t.cta.queue = [] ∧ t.cta.results = s.cta.results ∧ (∀ u : UnitNo, u ≠ 0 → t.unit u = none) ∧
      t.unit 0 =
        (if s.exm.fanOn then
          some { claim := blockClaim .tachFan (.rate 1000) .exm, counting := false, armed := s.amc.ticks,
                 openedAt := s.amc.ticks, count := 0 }
        else none) ∧
      (∀ c, t.pressureCond c = { holds := false, timer := none }) ∧ t.exm.fanStall = false ∧
      t.exm.stallTimer = none ∧ t.exm.clearTimer = none ∧
      (s.flk.duct.fault = false → s.flk.filter.fault = false →
        t.exm.sensorLink = false ∧ t.exm.grace = .stopped ∧
          t.exm.state = if s.exm.state = .starting then .starting else if s.exm.fanOn then .running else .off)

/-- The sweep of the records: a TAKEN cell is DONE with RESET and the other cells stand; an ANNOUNCED docket is
REFUSED with reason RESET, an ON_LINE one is DONE and ABORTED with its exit time absent, the other dockets keep their
states; every pin count is 0, and the recipes' other bytes, the description, the profiles and the host area stand.
That the sweep is taken whole at this command (assumption log, entry 8), and that the replies of a swept cell stand,
reply 0 of a PROFILE_SELECT as its DRAIN or SWITCH wrote it (entry 30), are the model's choices. -/
def Obligations.ControlResetSweepsTheRecords : Prop :=
  ∀ (en : Enables) (d : Half) (s : State), Instr.wf (.controlReset en d) = true → s.hpx.phase = .running →
    ∃ t, exec (.controlReset en d) s = .next t ∧
      (∀ c, t.cellState c = (if s.cellState c = cellTaken then cellDone else s.cellState c) ∧
        t.byteAt (cellBase c + 1) = (if s.cellState c = cellTaken then 9 else s.byteAt (cellBase c + 1)) ∧
        ∀ i, 2 ≤ i → i < 32 → t.byteAt (cellBase c + i) = s.byteAt (cellBase c + i)) ∧
      (∀ n, (s.docketState n = docketAnnounced →
          t.docketState n = docketRefused ∧ t.byteAt (docketBase n + 1) = 5 ∧
            ∀ i, 2 ≤ i → i < 128 → t.byteAt (docketBase n + i) = s.byteAt (docketBase n + i)) ∧
        (s.docketState n = docketOnLine →
          t.docketState n = docketDone ∧ t.byteAt (docketBase n + 35) = 3 ∧
            t.reasons n = s.reasons n ||| 0x2000 ∧ ∀ i, i < 4 → t.byteAt (docketBase n + 48 + i) = 0xFF) ∧
        (s.docketState n ≠ docketAnnounced → s.docketState n ≠ docketOnLine →
          ∀ i, i < 128 → t.byteAt (docketBase n + i) = s.byteAt (docketBase n + i))) ∧
      (∀ r, t.pins r = 0 ∧ ∀ i, i < 128 → i ≠ 2 → t.byteAt (recipeBase r + i) = s.byteAt (recipeBase r + i)) ∧
      ∀ a, (0x400 ≤ a ∧ a < 0x600) ∨ 0x2600 ≤ a → t.byteAt a = s.byteAt a

/-! ### The owners' rulings -/

/-- An announcement that passes every check: the controller part is made absent, the refusal reason NONE, the recipe's
pin count raised by 1, the docket appended to the arrival list, the state ANNOUNCED, and no attention class set. -/
def Obligations.AnnouncementAccepted : Prop :=
  ∀ (s : State) (d : DocketNo), s.waiting = some (.docket d, docketAnnounced) → s.docketState d = docketFree →
    (∀ a ∈ announceAddrs s d, s.xmBad a = false) →
    (∃ r : RecipeNo, (s.byteAt (docketBase d + 2)).toNat = r.val ∧ s.byteAt (recipeBase r) = recipeReady) →
    s.idLength d ≤ 24 → (∀ c ∈ s.idChars d, 0x20 ≤ c.toNat ∧ c.toNat ≤ 0x7E) →
    ∃ t, exec .docketStateRuling s = .next t ∧ RuledNow true s t ∧ OthersKept s t ∧
      t.docketState d = docketAnnounced ∧ t.byteAt (docketBase d + 1) = 0 ∧
      (∀ i, i < 34 → t.byteAt (docketBase d + 40 + i) = 0xFF) ∧
      (∀ i, 34 ≤ i → i < 39 → t.byteAt (docketBase d + i) = 0) ∧
      t.dkc = { s.dkc with arrival := s.dkc.arrival ++ [d] } ∧ t.pins (s.recipeOf d) = s.pins (s.recipeOf d) + 1 ∧
      OnlyBytes (fun a => a = docketBase d ∨ a = docketBase d + 1 ∨ (docketBase d + 34 ≤ a ∧ a < docketBase d + 39) ∨
        (docketBase d + 40 ≤ a ∧ a < docketBase d + 74) ∨ a = recipeBase (s.recipeOf d) + 2) s t ∧
      t.hpx = { s.hpx with slot := t.hpx.slot }

/-- An announcement that fails a check is refused: the failing check's reason, PARITY first, then a recipe index above
15, a recipe that is not READY, a bad ID; then the state REFUSED and ATTN.DOCKET. The arrival list, the pin counts,
the controller part and the alarms stand. -/
def Obligations.AnnouncementRefused : Prop :=
  ∀ (s : State) (d : DocketNo) (code : Byte), s.waiting = some (.docket d, docketAnnounced) →
    s.docketState d = docketFree →
    let idx := (s.byteAt (docketBase d + 2)).toNat
    let idBad := 24 < s.idLength d ∨ ∃ c ∈ s.idChars d, ¬ (0x20 ≤ c.toNat ∧ c.toNat ≤ 0x7E)
    ((code = 4 ∧ ∃ a ∈ announceAddrs s d, s.xmBad a = true) ∨
      ((∀ a ∈ announceAddrs s d, s.xmBad a = false) ∧
        ((code = 2 ∧ 15 < idx) ∨
          ∃ r : RecipeNo, idx = r.val ∧
            ((code = 1 ∧ s.byteAt (recipeBase r) ≠ recipeReady) ∨
              (code = 3 ∧ s.byteAt (recipeBase r) = recipeReady ∧ idBad))))) →
    ∃ t, exec .docketStateRuling s = .next t ∧ RuledNow true s t ∧ OthersKept s t ∧ t.dkc = s.dkc ∧
      t.docketState d = docketRefused ∧ t.byteAt (docketBase d + 1) = code ∧ t.hpx.attn.getLsbD 0 = true ∧
      OnlyBytes (fun a => a = docketBase d ∨ a = docketBase d + 1) s t

/-- R40: FREE written to a DONE or REFUSED docket writes refusal reason NONE and state FREE; the controller part, the
pin counts and everything else keep their values. -/
def Obligations.DocketGivenBack : Prop :=
  ∀ (s : State) (d : DocketNo), s.waiting = some (.docket d, docketFree) →
    s.docketState d = docketDone ∨ s.docketState d = docketRefused →
    ∃ t, exec .docketStateRuling s = .next t ∧ RuledNow true s t ∧ t.docketState d = docketFree ∧
      t.byteAt (docketBase d + 1) = 0 ∧ OnlyBytes (fun a => a = docketBase d ∨ a = docketBase d + 1) s t ∧
      (∀ r, t.pins r = s.pins r) ∧
      t = { s with hpx := { s.hpx with slot := t.hpx.slot }, xm := t.xm }

/-- The other rulings on a docket's state byte. FREE on ANNOUNCED withdraws it: out of the arrival list with the
others' order kept, the pin count lowered by 1, refusal reason NONE, state FREE, no attention class set, the
controller part kept. FREE on FREE and ANNOUNCED on ANNOUNCED are accepted and change nothing. Every pair outside the
table of R36 is refused TRANSITION and offered to the refusal record. -/
def Obligations.DocketWithdrawnAndOtherRulings : Prop :=
  ∀ (s : State) (d : DocketNo) (v : Byte), s.waiting = some (.docket d, v) →
    let st := s.docketState d
    ∃ t, exec .docketStateRuling s = .next t ∧
      (st = docketAnnounced ∧ v = docketFree →
        RuledNow true s t ∧ OthersKept s t ∧ t.docketState d = docketFree ∧ t.byteAt (docketBase d + 1) = 0 ∧
          t.dkc = { s.dkc with arrival := s.dkc.arrival.filter fun x => x != d } ∧
          (t.pins (s.recipeOf d)).toNat = (s.pins (s.recipeOf d)).toNat - 1 ∧
          OnlyBytes (fun a => a = docketBase d ∨ a = docketBase d + 1 ∨ a = recipeBase (s.recipeOf d) + 2) s t ∧
          t.hpx = { s.hpx with slot := t.hpx.slot }) ∧
      ((st = docketFree ∧ v = docketFree) ∨ (st = docketAnnounced ∧ v = docketAnnounced) →
        RuledNow true s t ∧ t = { s with hpx := { s.hpx with slot := t.hpx.slot } }) ∧
      (¬ (st = docketFree ∧ (v = docketAnnounced ∨ v = docketFree)) →
        ¬ (st = docketAnnounced ∧ (v = docketAnnounced ∨ v = docketFree)) →
        ¬ ((st = docketDone ∨ st = docketRefused) ∧ v = docketFree) →
        RuledNow false s t ∧
          ∀ w, s.hpx.slot = some w →
            t = { s with
                    hpx := { s.hpx with
                               slot := t.hpx.slot, refusal := offered s.hpx.refusal w.addr w.data .transition,
                               attn := attnOffered s.hpx.refusal s.hpx.attn } })

/-- The rulings on a recipe's state byte: READY on EMPTY validates it and makes it READY or INVALID with the reason
beside; EMPTY on READY empties it where its pin count is 0 and is refused PINNED where it is not; EMPTY on INVALID
empties it; repeats change nothing; every other pair is refused TRANSITION. Of the record only the state and the
reason are written. -/
def Obligations.RecipeRulings : Prop :=
  ∀ (s : State) (r : RecipeNo) (v : Byte), s.waiting = some (.recipe r, v) →
    let st := s.byteAt (recipeBase r)
    ∃ t, exec .recipeStateRuling s = .next t ∧ OthersKept s t ∧ t.dkc = s.dkc ∧
      OnlyBytes (fun a => a = recipeBase r ∨ a = recipeBase r + 1) s t ∧
      (st = recipeEmpty ∧ v = recipeReady → RuledNow true s t ∧
        t.byteAt (recipeBase r + 1) = (validateRecipe r s).1.code ∧
        t.byteAt (recipeBase r) = if (validateRecipe r s).1 = .none then recipeReady else recipeInvalid) ∧
      ((st = recipeReady ∧ v = recipeEmpty ∧ s.pins r = 0) ∨ (st = recipeInvalid ∧ v = recipeEmpty) →
        RuledNow true s t ∧ t.byteAt (recipeBase r) = recipeEmpty ∧ t.byteAt (recipeBase r + 1) = 0) ∧
      ((st = recipeEmpty ∧ v = recipeEmpty) ∨ (st = recipeReady ∧ v = recipeReady) → RuledNow true s t ∧ t.xm = s.xm) ∧
      (st = recipeReady ∧ v = recipeEmpty ∧ s.pins r ≠ 0 → RuledNow false s t ∧ t.xm = s.xm ∧
        ∀ w, s.hpx.slot = some w → t.hpx.refusal = offered s.hpx.refusal w.addr w.data .pinned) ∧
      (¬ (st = recipeEmpty ∧ (v = recipeEmpty ∨ v = recipeReady)) →
        ¬ (st = recipeReady ∧ (v = recipeEmpty ∨ v = recipeReady)) → ¬ (st = recipeInvalid ∧ v = recipeEmpty) →
        RuledNow false s t ∧ t.xm = s.xm ∧
        ∀ w, s.hpx.slot = some w → t.hpx.refusal = offered s.hpx.refusal w.addr w.data .transition)

/-- Validation names the first failure in its order. Of a line profile and of the machine description: the first field
of their tables, in address order, that is out of range or holds a bad byte, with its offset and that byte; then, for
the description, the first inequality of the geometry order that does not hold, at its field, and for START the
initial profile, with INVALID, the offset in reply 0 and the record in reply 1 (R33). Of a recipe: PARITY for a bad
byte among those read, which is offered for capture, then RANGE, BAND_ORDER, BAND_LENGTH, and PROFILE, or PARITY for a
bad byte there (R22). Which bad byte is captured follows the read order of the assumption log's entry 20, read from the
chapter by inference (DEDUCED). -/
def Obligations.ValidationFindsTheFirstFailure : Prop :=
  ∀ s : State,
    (∀ n, n < 4 → profileFailure s n = firstFailure s (0x500 + 64 * n) (profileRows s (0x500 + 64 * n))) ∧
    (∀ f, firstFailure s 0x400 (descriptionRows s) = some f → descriptionFailure s = some f) ∧
    (firstFailure s 0x400 (descriptionRows s) = none →
      descriptionFailure s =
        ((geometryRows s).find? fun g => !g.1).map fun g => { off := g.2, badByte := none }) ∧
    (∀ c : CellNo, s.isHanded c .start = true → s.amc.mode = .config →
      let invalid := fun off record : Nat =>
        ∃ t, exec (.start c) s = .next t ∧ Ends c .invalid t ∧ reply t c 0 = BitVec.ofNat 16 off ∧
          reply t c 1 = BitVec.ofNat 16 record ∧ t.amc.mode = .config
      (∀ f, firstFailure s 0x400 (descriptionRows s) = some f → invalid f.off 0) ∧
        (firstFailure s 0x400 (descriptionRows s) = none →
          (∀ g, (geometryRows s).find? (fun g => !g.1) = some g → invalid g.2 0) ∧
            ((∀ g ∈ geometryRows s, g.1 = true) → s.initialProfileByte.toNat < 4 →
              let base := 0x500 + 64 * s.initialProfileByte.toNat
              ∀ f, firstFailure s base (profileRows s base) = some f → invalid f.off 1))) ∧
    ∀ r : RecipeNo,
      let b := recipeBase r
      let why := (validateRecipe r s).1
      let profile := 0x500 + 64 * s.u8 (b + 6)
      (∀ a, (recipeReads s r).find? s.xmBad = some a →
        why = .parity ∧
          (validateRecipe r s).2.hpx.parityAddr =
            if s.hpx.parityAddr = 0xFFFF then BitVec.ofNat 16 a else s.hpx.parityAddr) ∧
      ((∀ a ∈ recipeReads s r, s.xmBad a = false) →
        (¬ recipeRanged s r → why = .range) ∧
        (recipeRanged s r → ¬ recipeOrdered s r → why = .bandOrder) ∧
        (recipeRanged s r → recipeOrdered s r →
          ((∃ x ∈ storedBands s r, s.u16 (b + 8) < x.last) → why = .bandLength) ∧
          ((∀ x ∈ storedBands s r, x.last ≤ s.u16 (b + 8)) →
            (∀ f, firstFailure s profile (profileRows s profile) = some f →
              why = if f.badByte = none then .profile else .parity) ∧
            (firstFailure s profile (profileRows s profile) = none →
              why = if s.u8 (b + 7) = 1 ∧ s.u8 (profile + 48) = 0 then .profile else .none))))

/-- The rulings on a request cell's state byte: a POST on IDLE or DONE is dispatched (unknown code: DONE with
UNKNOWN_CODE; a long code another TAKEN cell holds: DONE with BUSY; otherwise TAKEN with absent result and replies,
handed to its owner); IDLE on DONE makes the cell IDLE, IDLE on IDLE changes nothing; every other pair is refused
TRANSITION. The code, tag and arguments are never written. -/
def Obligations.RequestCellRulings : Prop :=
  ∀ (s : State) (c : CellNo) (v : Byte), s.waiting = some (.cell c, v) →
    let st := s.cellState c
    let posted := (st = cellIdle ∨ st = cellDone) ∧ v = cellPost
    ∃ t, exec .requestCellRuling s = .next t ∧ OthersKept s t ∧ t.dkc = s.dkc ∧
      OnlyBytes (fun a => a = cellBase c ∨ a = cellBase c + 1 ∨ (cellBase c + 16 ≤ a ∧ a < cellBase c + 32)) s t ∧
      (posted → RuledNow true s t) ∧
      (posted → Request.ofCode (s.cellCode c) = none → Ends c .unknownCode t) ∧
      (posted → (∃ r, Request.ofCode (s.cellCode c) = some r ∧ r.isLong = true) →
        s.otherTaken c (s.cellCode c) = true → Ends c .busy t) ∧
      (posted → ∀ r, Request.ofCode (s.cellCode c) = some r →
        ¬ (r.isLong = true ∧ s.otherTaken c (s.cellCode c) = true) →
        t.cellState c = cellTaken ∧ t.byteAt (cellBase c + 1) = 0xFF ∧ (∀ j, j < 8 → reply t c j = 0xFFFF) ∧
          t.hpx.handed = s.hpx.handed ++ [c]) ∧
      (st = cellDone ∧ v = cellIdle → RuledNow true s t ∧ t.cellState c = cellIdle ∧
        OnlyBytes (fun a => a = cellBase c) s t) ∧
      (st = cellIdle ∧ v = cellIdle → RuledNow true s t ∧ t.xm = s.xm) ∧
      (¬ posted → ¬ ((st = cellIdle ∨ st = cellDone) ∧ v = cellIdle) → RuledNow false s t ∧ t.xm = s.xm ∧
        ∀ w, s.hpx.slot = some w → t.hpx.refusal = offered s.hpx.refusal w.addr w.data .transition)

/-! ### The requests of the alarm and mode controller -/

/-- A START that passes every check: the stored description and its initial profile come into force, the mode is
STANDBY, the fan is on in STARTING, the working level reference is loaded, the residue is cleared with travel kept,
every zone is FAULT, OFF or SETTLING and the pot FAULT, MELTING or HEATING by the new profile, with their settle
timers stopped (R134, R148), both channels of the fume link are fresh (R115), a valve period of the new length starts
now (R117), and the cell ends OK with the active profile index in reply 0. The order of the blocks' acts within the
event is the model's choice (assumption log, entry 16). -/
def Obligations.StartAccepted : Prop :=
  ∀ (c : CellNo) (s : State), s.isHanded c .start = true → s.amc.mode = .config → descriptionFailure s = none →
    profileFailure s s.initialProfileByte.toNat = none → s.classOut .safe = false →
    ∃ t, exec (.start c) s = .next t ∧ Ends c .ok t ∧ reply t c 0 = s.initialProfileByte.zeroExtend 16 ∧
      t.amc.mode = .standby ∧ t.amc.inForce = some (storedDescription s) ∧
      t.amc.profile = some (storedProfile s (storedDescription s).initialProfile) ∧
      t.amc.activeProfile = s.initialProfileByte ∧ t.amc.changeover = s.amc.changeover ∧ t.exm.fanOn = true ∧
      t.exm.state = .starting ∧ t.exm.runOn = none ∧ t.ptc.workingRef = some (storedDescription s).levelRef ∧
      t.cvt.residue = 0 ∧ t.cvt.travel = s.cvt.travel ∧ t.amc.ticks = s.amc.ticks ∧
      heatEntered (storedProfile s (storedDescription s).initialProfile) s t ∧
      t.flk = { s.flk with duct := { failRun := 0, goodRun := 0, fault := false },
                           filter := { failRun := 0, goodRun := 0, fault := false } } ∧
      (let len := (storedProfile s (storedDescription s).initialProfile).valvePeriod
      let duty := ((s.fxc.buffered.or s.fxc.active).map (·.duty)).getD 0
      t.fxc.period = some { start := s.amc.ticks, len := len, openTime := duty * len / 1000 }) ∧
      (s.fxc.active = none → s.fxc.buffered = none → t.fxc.valves = 0) ∧
      t.dkc = { s.dkc with rxPast := s.rxSettings :: s.dkc.rxPast }

/-- A START that is turned away, by the first check that fails: MODE outside CONFIG; INVALID with the failing field's
offset and record; NOT_READY with the lowest id and the number of the SAFE-class alarms out of QUIET. -/
def Obligations.StartRefused : Prop :=
  ∀ (c : CellNo) (s : State), s.isHanded c .start = true →
    (s.amc.mode ≠ .config → ∃ t, exec (.start c) s = .next t ∧ Ends c .mode t ∧ TurnedAway c s t) ∧
    (s.amc.mode = .config → ∀ f, descriptionFailure s = some f →
      ∃ t, exec (.start c) s = .next t ∧ Ends c .invalid t ∧ reply t c 0 = BitVec.ofNat 16 f.off ∧
        reply t c 1 = 0 ∧ TurnedAway c s t) ∧
    (s.amc.mode = .config → descriptionFailure s = none →
      ∀ f, profileFailure s s.initialProfileByte.toNat = some f →
        ∃ t, exec (.start c) s = .next t ∧ Ends c .invalid t ∧ reply t c 0 = BitVec.ofNat 16 f.off ∧
          reply t c 1 = 1 ∧ TurnedAway c s t) ∧
    (s.amc.mode = .config → descriptionFailure s = none → profileFailure s s.initialProfileByte.toNat = none →
      ∀ a l, s.safeOut = a :: l →
        ∃ t, exec (.start c) s = .next t ∧ Ends c .notReady t ∧ reply t c 0 = BitVec.ofNat 16 a.id.val ∧
          reply t c 1 = BitVec.ofNat 16 (l.length + 1) ∧ TurnedAway c s t)

/-- PRODUCE outside STANDBY, FINISH outside PRODUCTION and RECONFIGURE outside STANDBY end MODE; PRODUCE and
RECONFIGURE with a failed condition end NOT_READY with a bit for each in reply 0. Otherwise: PRODUCE makes the mode
PRODUCTION and ends OK with reply 0 = 0; FINISH with the map empty makes the mode STANDBY and ends OK with reply 0 =
0, and with boards in the map makes it DRAINING with the request in flight; RECONFIGURE makes the active profile index
the stored initial profile field and the mode CONFIG, commands the pumps to 0, puts the fan that was on into run-on
and ends OK, the description in force kept. After each change of mode ZONE_DEVIATION, ZONE_SENSOR, POT_NOT_READY,
WAVE_PUMP_SPEED and WAVE_PUMP_STALL are present exactly where their conditions hold (R137, R139, R152, R155, R156).
Where no MEASURE, board or purge is disturbed by the change of mode, no byte but the request's own cell changes. That
TAKEN in the two lists of conditions means in flight at the owner is the model's reading (assumption log, entry 24).
That an alarm's condition is present exactly while its entry is ACTIVE or HELD is the model's reading (DEDUCED;
assumption log, entry 15). -/
def Obligations.ProduceFinishAndReconfigureRuled : Prop :=
  ∀ (c : CellNo) (s : State),
    (s.isHanded c .produce = true →
      (s.amc.mode ≠ .standby → ∃ t, exec (.produce c) s = .next t ∧ Ends c .mode t ∧ TurnedAway c s t) ∧
      (s.amc.mode = .standby → produceFailures s ≠ 0 →
        ∃ t, exec (.produce c) s = .next t ∧ Ends c .notReady t ∧ reply t c 0 = produceFailures s ∧
          TurnedAway c s t) ∧
      (s.amc.mode = .standby → produceFailures s = 0 →
        ∃ t, exec (.produce c) s = .next t ∧ Ends c .ok t ∧ reply t c 0 = 0 ∧ t.amc.mode = .production ∧
          t.hpx.attn.getLsbD 3 = true ∧ t.cvt.map = s.cvt.map ∧ modeConditions t ∧
          (Undisturbed s → OnlyCell c s t))) ∧
    (s.isHanded c .finish = true →
      (s.amc.mode ≠ .production → ∃ t, exec (.finish c) s = .next t ∧ Ends c .mode t ∧ TurnedAway c s t) ∧
      (s.amc.mode = .production → s.cvt.map = [] →
        ∃ t, exec (.finish c) s = .next t ∧ Ends c .ok t ∧ reply t c 0 = 0 ∧ t.amc.mode = .standby ∧
          t.hpx.attn.getLsbD 3 = true ∧ t.amc.finish = s.amc.finish ∧ modeConditions t ∧
          (Undisturbed s → OnlyCell c s t)) ∧
      (s.amc.mode = .production → s.cvt.map ≠ [] →
        ∃ t, exec (.finish c) s = .next t ∧ t.amc.mode = .draining ∧ t.amc.finish = some c ∧
          t.cvt.map = s.cvt.map ∧ t.hpx.attn.getLsbD 3 = true ∧ modeConditions t ∧
          (Undisturbed s → t.xm = s.xm))) ∧
    (s.isHanded c .reconfigure = true →
      (s.amc.mode ≠ .standby → ∃ t, exec (.reconfigure c) s = .next t ∧ Ends c .mode t ∧ TurnedAway c s t) ∧
      (s.amc.mode = .standby → reconfigureFailures s ≠ 0 →
        ∃ t, exec (.reconfigure c) s = .next t ∧ Ends c .notReady t ∧ reply t c 0 = reconfigureFailures s ∧
          TurnedAway c s t) ∧
      (s.amc.mode = .standby → reconfigureFailures s = 0 →
        ∃ t, exec (.reconfigure c) s = .next t ∧ Ends c .ok t ∧ t.amc.mode = .config ∧
          t.amc.activeProfile = s.initialProfileByte ∧ t.amc.inForce = s.amc.inForce ∧
          t.ptc.chip.command = 0 ∧ t.ptc.main.command = 0 ∧ t.exm.fanOn = s.exm.fanOn ∧
          t.exm.runOn = (if s.exm.fanOn then some s.amc.ticks else s.exm.runOn) ∧ modeConditions t ∧
          (Undisturbed s → OnlyCell c s t)))

/-- The bits of PRODUCE's and RECONFIGURE's reply 0 are the failed conditions, and the other bits are 0.  That TAKEN in
these conditions means in flight at the owner is the model's reading (assumption log, entry 24). -/
def Obligations.FailedConditionBits : Prop :=
  ∀ s : State,
    ((produceFailures s).getLsbD 0 = true ↔ ¬ ∀ z, s.setpoint z = 0 ∨ (s.zone z).state = .ready) ∧
      ((produceFailures s).getLsbD 1 = true ↔ s.ptc.pot.state ≠ .ready) ∧
      ((produceFailures s).getLsbD 2 = true ↔ s.exm.state ≠ .running) ∧
      ((produceFailures s).getLsbD 3 = true ↔ ∃ a : Alarm, a.cls ≠ .note ∧ (s.alarm a).state ≠ .quiet) ∧
      ((produceFailures s).getLsbD 4 = true ↔ s.ptc.calibrate ≠ none) ∧
      ((reconfigureFailures s).getLsbD 0 = true ↔ s.cvt.map ≠ []) ∧
      ((reconfigureFailures s).getLsbD 1 = true ↔
        ¬ (s.amc.changeover = none ∧ s.fxc.purge = none ∧ s.ptc.calibrate = none ∧ s.ptc.feed = none)) ∧
      (∀ i, 5 ≤ i → (produceFailures s).getLsbD i = false) ∧ ∀ i, 2 ≤ i → (reconfigureFailures s).getLsbD i = false

/-- SAFE_ENTER in STANDBY, PRODUCTION or DRAINING makes the mode SAFE and ends OK. The requests in flight but a
MEASURE are over: the cells of a FINISH, a PROFILE_SELECT, a LEVEL_CALIBRATE, a FEED_SOLDER and a FLUX_PURGE are DONE
with ABORTED (R92, R94, R130). Every docket ON_LINE has SAFE_DURING, and no other docket's reasons change. The zones
and the pot are OFF with their heaters off, the pumps are commanded to 0, the feeder and the valves are still, and the
fan stands. In SAFE it ends OK and changes nothing else; in CONFIG it ends MODE. SAFE_LEAVE outside SAFE ends MODE; in
SAFE with SAFE-class alarms out of QUIET it ends NOT_READY with the lowest id and their number; otherwise the mode is
STANDBY and the result OK, and every zone is FAULT, OFF or SETTLING and the pot FAULT, MELTING or HEATING by the
profile in force, with their settle timers stopped (R134, R148). -/
def Obligations.SafeEnterAndLeaveRuled : Prop :=
  ∀ (c : CellNo) (s : State),
    (s.isHanded c .safeEnter = true →
      (s.amc.mode.works = true →
        ∃ t, exec (.safeEnter c) s = .next t ∧ Ends c .ok t ∧ t.amc.mode = .safe ∧ t.amc.finish = none ∧
          t.amc.changeover = none ∧ (∀ z, (t.zone z).state = .off ∧ (t.zone z).heaterOn = false) ∧
          t.ptc.pot.state = .off ∧ t.ptc.pot.heaterOn = false ∧ t.ptc.chip.command = 0 ∧ t.ptc.main.command = 0 ∧
          t.ptc.calibrate = none ∧ t.ptc.feed = none ∧ t.ptc.feeder ≠ .feeding ∧ t.fxc.purge = none ∧
          t.exm.fanOn = s.exm.fanOn ∧ t.cvt.map = s.cvt.map ∧
          (∀ d, s.onLine d = true → (t.reasons d).getLsbD 11 = true) ∧
          (∀ d, s.onLine d = false → t.reasons d = s.reasons d) ∧
          (requestsLegal s →
            ∀ p ∈ inFlight s, p.2 ≠ 0x30 → t.cellState p.1 = cellDone ∧ t.byteAt (cellBase p.1 + 1) = 6) ∧
          (outputsLegal s → t.fxc.valves = 0)) ∧
      (s.amc.mode = .safe → ∃ t, exec (.safeEnter c) s = .next t ∧ Ends c .ok t ∧ TurnedAway c s t) ∧
      (s.amc.mode = .config → ∃ t, exec (.safeEnter c) s = .next t ∧ Ends c .mode t ∧ TurnedAway c s t)) ∧
    (s.isHanded c .safeLeave = true →
      (s.amc.mode ≠ .safe → ∃ t, exec (.safeLeave c) s = .next t ∧ Ends c .mode t ∧ TurnedAway c s t) ∧
      (s.amc.mode = .safe → ∀ a l, s.safeOut = a :: l →
        ∃ t, exec (.safeLeave c) s = .next t ∧ Ends c .notReady t ∧ reply t c 0 = BitVec.ofNat 16 a.id.val ∧
          reply t c 1 = BitVec.ofNat 16 (l.length + 1) ∧ TurnedAway c s t) ∧
      (s.amc.mode = .safe → s.safeOut = [] →
        ∃ t, exec (.safeLeave c) s = .next t ∧ Ends c .ok t ∧ t.amc.mode = .standby ∧
          ∀ f, s.amc.profile = some f → heatEntered f s t))

/-- PROFILE_SELECT by its checks in order: MODE; INVALID for an index above 3 or an invalid profile; NOT_READY beside
a purge or a calibration; OK without a change where the profile is active already; otherwise in flight, in DRAIN with
boards in the map, and past the SWITCH, with the target's settings in force, where the map is empty. The changeover in
SETTLE then ends: OK when every condition of R29 holds at once (the zones with a setpoint READY, the pot READY, each
pump AT_SPEED at its target, or STOPPED with target 0, and in PRODUCTION and DRAINING the conveyor AT_SPEED), TIMEOUT
when the changeover limit has passed; reply 0 the active profile index, reply 1 = 2, replies 2 and 3 the milliseconds
since the SWITCH, no other byte but its cell's changed. From the SWITCH on ZONE_DEVIATION and POT_NOT_READY are
absent; at the end both are judged again. That TAKEN in the third check means in flight at the owner is the model's
reading (assumption log, entry 24); that reply 0 holds the active index from DRAIN on (entry 30), and that a row whose
time has not come changes nothing (entry 4), are its choices. That an alarm's condition is present exactly while its
entry is ACTIVE or HELD is the model's reading (DEDUCED; assumption log, entry 15). -/
def Obligations.ProfileSelectRuled : Prop :=
  (∀ (c : CellNo) (s : State), s.isHanded c .profileSelect = true →
    let n := (s.cellArg c 0).toNat
    let active : Half := s.amc.activeProfile.zeroExtend 16
    let runs := s.amc.mode = .standby ∨ s.amc.mode = .production
    let free := s.fxc.purge = none ∧ s.ptc.calibrate = none
    let turned := fun (r : RequestResult) (reply0 : Half) =>
      ∃ t, exec (.profileSelect c) s = .next t ∧ Ends c r t ∧ reply t c 0 = reply0 ∧ reply t c 1 = 0 ∧
        TurnedAway c s t
    (¬ runs → turned .mode active) ∧
      (runs → 3 < n → turned .invalid 0xFFFF) ∧
      (runs → n ≤ 3 → ∀ f, profileFailure s n = some f → turned .invalid (BitVec.ofNat 16 f.off)) ∧
      (runs → n ≤ 3 → profileFailure s n = none → ¬ free → turned .notReady active) ∧
      (runs → n ≤ 3 → profileFailure s n = none → free → n = s.amc.activeProfile.toNat → turned .ok active) ∧
      (runs → n ≤ 3 → profileFailure s n = none → free → n ≠ s.amc.activeProfile.toNat → s.cvt.map ≠ [] →
        ∃ t, exec (.profileSelect c) s = .next t ∧
          t.amc = { s.amc with changeover := some { cell := c, target := Fin.ofNat 4 n, switchedAt := none } } ∧
          reply t c 0 = active ∧ OnlyBytes (fun a => a = cellBase c + 16 ∨ a = cellBase c + 17) s t ∧
          t.cvt = s.cvt ∧ t.fxc = s.fxc ∧ t.phc = s.phc ∧ t.ptc = s.ptc ∧ t.exm = s.exm) ∧
      (runs → n ≤ 3 → profileFailure s n = none → free → n ≠ s.amc.activeProfile.toNat → s.cvt.map = [] →
        ∃ t, exec (.profileSelect c) s = .next t ∧
          t.amc.changeover = some { cell := c, target := Fin.ofNat 4 n, switchedAt := some s.amc.ticks } ∧
          t.amc.activeProfile = BitVec.ofNat 8 n ∧ t.amc.profile = some (storedProfile s n) ∧
          t.present .zoneDeviation = false ∧ t.present .potNotReady = false ∧
          (requestsLegal s → reply t c 0 = BitVec.ofNat 16 n) ∧ t.amc.mode = s.amc.mode)) ∧
  (∀ (s : State) (f : Profile), s.amc.profile = some f →
    let idle := s.amc.mode = .standby
    let target := fun p : PumpId =>
      match p with
      | .chip => if s.amc.mode = .standby then f.chipIdle else f.chipProduction
      | .main => if s.amc.mode = .standby then f.mainIdle else f.mainProduction
    (s.changeoverSettled = true ↔
      (∃ ch t0, s.amc.changeover = some ch ∧ ch.switchedAt = some t0) ∧
        (∀ z, f.zones[z].setpoint = 0 ∨ (s.zone z).state = .ready) ∧ s.ptc.pot.state = .ready ∧
        (∀ p, (target p = 0 → (s.pump p).state = .stopped) ∧
          (target p ≠ 0 → (s.pump p).state = .atSpeed ∧ (s.pump p).command = target p)) ∧
        (idle ∨ ((s.amc.mode = .production ∨ s.amc.mode = .draining) ∧ s.cvt.drive = .atSpeed)))) ∧
  ∀ (s : State) (ch : Changeover) (t0 : Nat), s.amc.changeover = some ch → ch.switchedAt = some t0 →
    s.fxc.purge = none → (∀ b, s.fxc.board = some b → b.interrupted = false → s.boardPermission = true) →
    let ended := fun (r : RequestResult) (t : State) =>
      Ends ch.cell r t ∧ reply t ch.cell 0 = s.amc.activeProfile.zeroExtend 16 ∧ reply t ch.cell 1 = 2 ∧
        replyWord t ch.cell 2 = BitVec.ofNat 32 (s.amc.ticks - t0) ∧ t.amc.changeover = none ∧
        t.amc.activeProfile = s.amc.activeProfile ∧ t.amc.mode = s.amc.mode ∧ OnlyCell ch.cell s t ∧
        deviationJudged s t ∧ potReadyJudged s t
    (s.changeoverSettled = true → ∃ t, exec .changeoverComplete s = .next t ∧ ended .ok t) ∧
      (s.changeoverSettled = false → exec .changeoverComplete s = .next s) ∧
      ∀ f, s.amc.profile = some f →
        (t0 + 1000 * f.changeoverLimit ≤ s.amc.ticks →
          ∃ t, exec .changeoverTimeout s = .next t ∧ ended .timeout t) ∧
        (s.amc.ticks < t0 + 1000 * f.changeoverLimit → exec .changeoverTimeout s = .next s)

/-- ACK_ALARM ends INVALID with reply 0 = 0 for an argument that names neither one alarm nor all. Otherwise each named
entry that is ACTIVE becomes HELD and each that is LATCHED becomes QUIET, their records of R83 as before; the other
entries stand, the named HELD and QUIET ones among them; reply 0 is the number of entries whose state changes, with
ATTN.ALARM where there is one, and the result is OK where it is above 0, and NOTHING where it is 0 (R84). Where
WIRE_FEED_TIMEOUT is taken from LATCHED to QUIET a BLOCKED feeder is cleared, its timer 0, and begins to feed at once
where R161 has it feed (R162); where it is not, the pot controller stands as it was. -/
def Obligations.AckAlarmRuled : Prop :=
  ∀ (c : CellNo) (s : State), s.isHanded c .ackAlarm = true →
    let n := (s.cellArg c 0).toNat
    let acked := fun e : AlarmEntry =>
      { e with state := match e.state with
                        | .active => .held
                        | .latched => .quiet
                        | .held => .held
                        | .quiet => .quiet }
    let ruled := fun named : List Alarm =>
      let k := (named.filter fun a => acked (s.alarm a) != s.alarm a).length
      ∃ t, exec (.ackAlarm c) s = .next t ∧ Ends c (if k = 0 then .nothing else .ok) t ∧
        reply t c 0 = BitVec.ofNat 16 k ∧ (0 < k → t.hpx.attn.getLsbD 2 = true) ∧
        (modeLegal s → outputsLegal s → (s.spraying = true → s.fluxApproachClear = true) →
          (∀ a, t.alarm a = if a ∈ named then acked (s.alarm a) else s.alarm a) ∧
            let cleared := .wireFeedTimeout ∈ named ∧ (s.alarm .wireFeedTimeout).state = .latched
            let allowed := (s.ptc.pot.state = .ready ∨ s.ptc.pot.state = .deviation) ∧ s.amc.mode.works = true ∧
              s.ptc.feed = none ∧ s.ptc.calibrate = none
            (cleared → s.ptc.feeder = .blocked →
              t.ptc = { s.ptc with feeder := feederNamed .idle s.ptc.levelState False allowed, feedTimer := 0 }) ∧
              (¬ cleared → t.ptc = s.ptc))
    (32 ≤ n → n ≠ 0xFF →
      ∃ t, exec (.ackAlarm c) s = .next t ∧ Ends c .invalid t ∧ reply t c 0 = 0 ∧ TurnedAway c s t) ∧
      (∀ i : Fin 32, n = i.val → ruled [Alarm.ofId i]) ∧ (n = 0xFF → ruled allAlarms)

/-- The machine condition, the conveyor-stop signal, the horn and the beacon, each as the alarm table gives it (R85 to
R87). The tables of R81 and R82: what a raise claim, a clear claim, a pulse claim and an acknowledgement make of an
entry's state, with the record of R83 where it is due, ATTN.ALARM where the state changes, and every other entry as
before. -/
def Obligations.AlarmTable : Prop :=
  (∀ s : State,
    let out := fun c : AlarmClass => ∃ a : Alarm, a.cls = c ∧ (s.alarm a).state ≠ .quiet
    (out .safe → s.condition = .safe) ∧ (¬ out .safe → out .stopFlux → s.condition = .stopFlux) ∧
      (¬ out .safe → ¬ out .stopFlux → out .hold → s.condition = .hold) ∧
      (¬ out .safe → ¬ out .stopFlux → ¬ out .hold → s.condition = .normal) ∧
      (s.conveyorStop = true ↔ (s.alarm .safetyChainOpen).state ≠ .quiet ∨ (s.alarm .conveyorStall).state ≠ .quiet ∨
        (s.alarm .boardJam).state ≠ .quiet) ∧
      (s.hpx.phase = .initialising → s.horn = false ∧ s.beacon = .dark) ∧
      (s.hpx.phase ≠ .initialising →
        (s.horn = true ↔
          ∃ a : Alarm, a.cls ≠ .note ∧ ((s.alarm a).state = .active ∨ (s.alarm a).state = .latched)) ∧
        s.beacon =
          if s.condition = .stopFlux ∨ s.condition = .safe then .red
          else if s.condition = .hold ∨ s.amc.mode ≠ .production then .amber else .green)) ∧
  ∀ (a : Alarm) (detail : Half) (docket : Option DocketNo) (s : State),
    let e := s.alarm a
    let recorded : AlarmEntry :=
      { e with occurrences := if e.occurrences = 0xFFFF then 0xFFFF else e.occurrences + 1,
               detail := if detail = 0xFFFF then 0xFFFE else detail, docket := docket, time := s.lineClock }
    let became := fun (t : State) (e' : AlarmEntry) =>
      t.alarm a = e' ∧ (∀ b, b ≠ a → t.alarm b = s.alarm b) ∧
        t = { s with amc := { s.amc with alarms := t.amc.alarms },
                     hpx := { s.hpx with attn := if e'.state = e.state then s.hpx.attn else s.hpx.attn ||| 0x04 } }
    became (claimRaise a detail docket s)
        (if e.state = .quiet ∨ e.state = .latched then { recorded with state := .active } else e) ∧
      became (claimClear a s)
        { e with state := match e.state with
                          | .active => .latched
                          | .held => .quiet
                          | .quiet => .quiet
                          | .latched => .latched } ∧
      became (claimPulse a detail docket s) { recorded with state := .latched } ∧
      became (acknowledge a s)
        { e with state := match e.state with
                          | .active => .held
                          | .latched => .quiet
                          | .quiet => .quiet
                          | .held => .held }

/-! ### The other requests -/

/-- MEASURE with an invalid argument of the table of R109 ends INVALID with the first one's number in reply 0;
otherwise its source is argument 0's and its mode argument 1's, a RATE's gate argument 2, and it is in flight. Its claim
is merged into a block's standing claim as a follower, or granted the lowest free unit: COUNTING at once in mode OPEN,
ARMED in the others. With no unit free it waits at the tail of the claim queue (R100), but one of FLOW preempts the RATE
claim with the latest armed time, which ends ABANDONED and is claimed again behind those that wait (R106; the FLOW claim
is ARMED in a mode other than OPEN: log 14). DIAG's own claim is not there to be preempted, since a second MEASURE is
BUSY (R16). When DIAG's own OPEN claim has counted its open time, CTA closes it: the MEASURE ends OK with the count,
status OK, the sequence count of its result, the completion time, and the mode OPEN, as DIAG's own result. That a row
whose time has not come changes nothing is the model's choice (assumption log, entry 4). -/
def Obligations.MeasureRuledAndItsOpenTime : Prop :=
  (∀ (c : CellNo) (s : State), s.isHanded c .measure = true →
      let args := measureArgs (s.cellArg c 0).toNat (s.cellArg c 1).toNat (s.cellArg c 2).toNat
      let taken : Option Measure := some { cell := c, openTime := (s.cellArg c 2).toNat }
      let src := (s.cellArg c 0).toNat
      let mode := (s.cellArg c 1).toNat
      let value := (s.cellArg c 2).toNat
      let valueBad := (mode = 0 ∧ value ≠ 100 ∧ value ≠ 250 ∧ value ≠ 500 ∧ value ≠ 1000) ∨
        (mode = 1 ∧ ¬ (1 ≤ value ∧ value ≤ 60000))
      (∀ n : Nat, (n = 0 ∧ 6 < src) ∨ (n = 1 ∧ src ≤ 6 ∧ 2 < mode) ∨ (n = 2 ∧ src ≤ 6 ∧ valueBad) →
        ∃ t, exec (.measure c) s = .next t ∧ Ends c .invalid t ∧ reply t c 0 = BitVec.ofNat 16 n ∧ TurnedAway c s t) ∧
        (∀ src m u, args = .ok (src, m) → s.standing src = none → s.freeUnit = some u →
          ∃ t, exec (.measure c) s = .next t ∧ t.cta.measure = taken ∧ t.cta.queue = s.cta.queue ∧
            t.unit u = some (granted s (diagClaim src m)) ∧
            (∀ v, v ≠ u → t.unit v = s.unit v) ∧ t.xm = s.xm ∧ t.amc = s.amc) ∧
        (src ≤ 6 → mode ≤ 2 → ¬ valueBad →
          ∃ x m, args = .ok (x, m) ∧
            [Source.flow, .tachChip, .tachMain, .tachFan, .echo, .pyro, .aux][src]? = some x ∧
            (mode = 0 → m = .rate value) ∧ (mode = 1 → m = .opened) ∧ (mode = 2 → m = .span)) ∧
        (∀ src m, args = .ok (src, m) → s.standing src = none → s.freeUnit = none → src ≠ .flow →
          ∃ t, exec (.measure c) s = .next t ∧
            t.cta = { s.cta with measure := taken, queue := s.cta.queue ++ [diagClaim src m] } ∧ t.xm = s.xm ∧
            t.amc = s.amc) ∧
        (∀ m u k, args = .ok (.flow, m) → s.standing .flow = none → preempted s u k →
          SoleClaim s u k.claim.source → k.claim.claimant ≠ .diag → k.claim.follower = false →
          ∃ t, exec (.measure c) s = .next t ∧ t.cta.measure = taken ∧
            t.unit u = some (granted s (diagClaim .flow m)) ∧ (∀ v, v ≠ u → t.unit v = s.unit v) ∧
            t.cta.results[srcNumber k.claim.source] = resultOf s k.claim.source .abandoned none ∧
            t.cta.queue = s.cta.queue ++ placedAgain s k.claim ∧ t.xm = s.xm ∧ t.amc = s.amc) ∧
        ∀ src m old, args = .ok (src, m) → s.standing src = some old → old.claimant ≠ .diag →
          ∃ t, exec (.measure c) s = .next t ∧ t.cta.measure = taken ∧
            t.standing src = some { old with follower := true } ∧ t.xm = s.xm ∧ t.amc = s.amc) ∧
  (∀ (s : State) (m : Measure) (u : UnitNo) (cu : CountUnit), s.cta.measure = some m → s.diagOpen = some (u, cu) →
      cu.claim.merged = false →
      (cu.armed + m.openTime ≤ s.amc.ticks →
        ∃ t, exec .measureOpenTimeExpiry s = .next t ∧ Ends m.cell .ok t ∧ t.cta.measure = none ∧
          replyWord t m.cell 0 = BitVec.ofNat 32 cu.count ∧ reply t m.cell 2 = 1 ∧
          reply t m.cell 3 = (resultOf s cu.claim.source .ok (some cu.count)).seq.zeroExtend 16 ∧
          t.cta.results[srcNumber cu.claim.source] = resultOf s cu.claim.source .ok (some cu.count) ∧
          replyWord t m.cell 4 = s.lineClock ∧ reply t m.cell 6 = 0 ∧ reply t m.cell 7 = 1 ∧ OnlyCell m.cell s t) ∧
        (s.amc.ticks < cu.armed + m.openTime → exec .measureOpenTimeExpiry s = .next s))

/-- FLUX_PURGE by its checks in order: MODE, INVALID with the first invalid argument's number in reply 6, NOT_READY
beside a PROFILE_SELECT, each but INVALID with reply 6 = 0; otherwise the purge is in WAIT. Spray permission is the
mode STANDBY, PRODUCTION or DRAINING, the condition NORMAL or HOLD, and the extraction RUNNING or DEGRADED. A purge in
WAIT enters SPRAY when flux approach clear, no current flux board and the spray permission hold together: its load is
buffered, its valve-open time 0, and FXC's FLOW claim counts in the lowest free unit; with the pressure switch NOT_OK
FLUX_PRESSURE_LOW is raised there and ends the spraying in the same event, ABORTED, the alarm LATCHED where the mode
does not keep its condition (R127). When the spray timer expires the purge ends OK, and where in SPRAY the permission
is lost or flux approach clear withdrawn it ends ABORTED with the milliseconds sprayed (R130): the valves are closed,
the FLOW claim closed, replies 0 to 3 the pulses and the dose in full, or absent after an OVERRANGE, replies 4 and 5
the valve-open time, reply 6 = 2, reply 7 the time of spraying; FLUX_NO_FLOW is pulsed with docket none for no pulse in
1,000 ms or more; and with no MEASURE in flight no byte but its cell's changes. In WAIT only SAFE ends it, ABORTED with
reply 6 = 1. That TAKEN in the last check means in flight at the owner is the model's reading (assumption log, entry
24); that a valve set above 255 is invalid (entry 29) and that a row whose time has not come changes nothing (entry 4)
are its choices. -/
def Obligations.FluxPurgeRuledAndSprayed : Prop :=
  (∀ (c : CellNo) (s : State), s.isHanded c .fluxPurge = true →
      let valves := (s.cellArg c 0).toNat
      let duration := (s.cellArg c 1).toNat
      let duty := (s.cellArg c 2).toNat
      let runs := s.amc.mode = .standby ∨ s.amc.mode = .production
      let ok0 := 1 ≤ valves ∧ valves ≤ 255
      let ok1 := 100 ≤ duration ∧ duration ≤ 30000
      let ok2 := 100 ≤ duty ∧ duty ≤ 1000
      let turned := fun (r : RequestResult) (reply6 : Half) =>
        ∃ t, exec (.fluxPurge c) s = .next t ∧ Ends c r t ∧ reply t c 6 = reply6 ∧ TurnedAway c s t
      (¬ runs → turned .mode 0) ∧ (runs → ¬ ok0 → turned .invalid 0) ∧ (runs → ok0 → ¬ ok1 → turned .invalid 1) ∧
        (runs → ok0 → ok1 → ¬ ok2 → turned .invalid 2) ∧
        (runs → ok0 → ok1 → ok2 → s.amc.changeover ≠ none → turned .notReady 0) ∧
        (runs → ok0 → ok1 → ok2 → s.amc.changeover = none →
          ∃ t, exec (.fluxPurge c) s = .next t ∧
            t.fxc = { s.fxc with
                        purge := some { cell := c, load := { valves := (s.cellArg c 0).extractLsb' 0 8, duty := duty },
                                        duration := duration, phase := .wait, valveTime := 0, flow := none } } ∧
            t.xm = s.xm ∧ t.amc = s.amc ∧ t.cta = s.cta ∧ t.cvt = s.cvt)) ∧
  (∀ s : State,
    (s.sprayPermission = true ↔
      (s.amc.mode = .standby ∨ s.amc.mode = .production ∨ s.amc.mode = .draining) ∧
        (s.condition = .normal ∨ s.condition = .hold) ∧ (s.exm.state = .running ∨ s.exm.state = .degraded)) ∧
    ∀ (p : Purge) (u : UnitNo) (c : CountUnit), s.fxc.board = none → s.fxc.purge = some p →
      s.unit u = some c → SoleClaim s u .flow → c.claim.source = .flow → c.claim.claimant = .fxc →
      c.claim.mode = .opened → c.counting = true → c.count = 1048575 →
      ∃ t, exec (.sourceEdge .flow) s = .next t ∧
        t.fxc = { s.fxc with purge := some { p with flow := some .overrange } }) ∧
  ∀ (s : State) (p : Purge), s.fxc.purge = some p →
      let ended := fun (t : State) (r : RequestResult) (ms : Nat) =>
        Ends p.cell r t ∧ reply t p.cell 6 = 2 ∧ reply t p.cell 7 = BitVec.ofNat 16 ms ∧
          replyWord t p.cell 4 = BitVec.ofNat 32 p.valveTime ∧ t.fxc.purge = none ∧ t.fxc.valves = 0 ∧
          t.fxc.active = none ∧ t.fxc.buffered = none ∧ (s.cta.measure = none → OnlyCell p.cell s t) ∧
          (p.flow = some .overrange →
            replyWord t p.cell 0 = 0xFFFFFFFF ∧ replyWord t p.cell 2 = 0xFFFFFFFF ∧ t.cta = s.cta ∧
              t.alarm .fluxNoFlow = s.alarm .fluxNoFlow) ∧
          ∀ u c f, p.flow = none → s.openUnit .flow .fxc = some u → s.unit u = some c → s.amc.profile = some f →
            replyWord t p.cell 0 = BitVec.ofNat 32 c.count ∧
              replyWord t p.cell 2 = BitVec.ofNat 32 (c.count * 1000 / f.kFactor) ∧
              t.cta.results[srcNumber .flow] = resultOf s .flow .ok (some c.count) ∧
              t.alarm .fluxNoFlow =
                if c.count = 0 ∧ 1000 ≤ p.valveTime then
                  recordedAs s .fluxNoFlow .latched (BitVec.ofNat 16 (min p.valveTime 32767)) none
                else s.alarm .fluxNoFlow
      (p.phase = .wait → s.fluxApproachClear = true → s.fxc.board = none → s.sprayPermission = true →
        (s.fxc.pressureOk = true →
          ∃ t, exec .purgeSprayStart s = .next t ∧ t.fxc.buffered = some p.load ∧
            t.fxc.purge = some { p with phase := .spray none, valveTime := 0, flow := none } ∧
            ∀ u, s.standing .flow = none → s.freeUnit = some u →
              t.unit u = some (granted s (blockClaim .flow .opened .fxc)) ∧ ∀ v, v ≠ u → t.unit v = s.unit v) ∧
        (s.fxc.pressureOk = false →
          ∃ t, exec .purgeSprayStart s = .next t ∧ Ends p.cell .aborted t ∧ reply t p.cell 6 = 2 ∧
            reply t p.cell 7 = 0 ∧ replyWord t p.cell 4 = 0 ∧ t.fxc.purge = none ∧ t.fxc.valves = 0 ∧
            t.fxc.active = none ∧ t.fxc.buffered = none ∧
            t.alarm .fluxPressureLow =
              recordedAs s .fluxPressureLow (if s.amc.mode = .standby then .latched else .active) 0 none ∧
            t.alarm .fluxNoFlow = s.alarm .fluxNoFlow ∧ (s.cta.measure = none → OnlyCell p.cell s t) ∧
            ∀ u, s.standing .flow = none → s.freeUnit = some u →
              replyWord t p.cell 0 = 0 ∧ replyWord t p.cell 2 = 0 ∧
                t.cta.results[srcNumber .flow] = resultOf s .flow .ok (some 0))) ∧
        (p.phase = .wait → ¬ (s.fluxApproachClear = true ∧ s.fxc.board = none ∧ s.sprayPermission = true) →
          exec .purgeSprayStart s = .next s) ∧
        (∀ t0, p.phase = .spray (some t0) →
          (t0 + p.duration ≤ s.amc.ticks →
            ∃ t, exec .purgeSprayExpiry s = .next t ∧ ended t .ok p.duration) ∧
          (s.amc.ticks < t0 + p.duration → exec .purgeSprayExpiry s = .next s)) ∧
        (∀ at0, p.phase = .spray at0 → s.fxc.board = none →
          let sprayed := (at0.map fun t0 => s.amc.ticks - t0).getD 0
          (s.sprayPermission = true → s.fluxApproachClear = true → fluxLoss s = s) ∧
            (¬ (s.sprayPermission = true ∧ s.fluxApproachClear = true) →
              ∃ t, fluxLoss s = t ∧ ended t .aborted sprayed) ∧
            (200 ≤ s.fxc.pressureCount → s.fxc.pressureOk = true →
              ∃ t, exec .pressureSwitchDebounce s = .next t ∧ ended t .aborted sprayed) ∧
            ∀ grant jam, requestsLegal s → s.cvt.entryEye = false → s.amc.mode ≠ .config → s.cvt.map.length < 12 →
              ∃ t, entryPhase true grant jam s = t ∧ Ends p.cell .aborted t ∧ reply t p.cell 6 = 2 ∧
                reply t p.cell 7 = BitVec.ofNat 16 sprayed ∧ t.fxc.purge = none ∧ t.fxc.valves = 0) ∧
        (p.phase = .wait →
          (s.amc.mode = .safe →
            ∃ t, fluxLoss s = t ∧ Ends p.cell .aborted t ∧ reply t p.cell 6 = 1 ∧ t.fxc.purge = none) ∧
          (s.amc.mode ≠ .safe → s.fxc.board = none → fluxLoss s = s))

/-- LEVEL_CALIBRATE outside STANDBY ends MODE; beside a FEED_SOLDER or a PROFILE_SELECT, or with no description in
force, NOT_READY; both with reply 2 = 0. Otherwise it is in flight and both pumps are commanded to 0; with both pumps
standing at command 0 and STOPPED already, its quiet time runs from now, else from the ramp step that leaves both
STOPPED; after 10,000 ms it samples with zero counts. In SAMPLING an echo outside the quiet rule adds its distance and
counts as a sample, and a failed one adds 1 to the failure count. The 16th sample ends it: the mean, rounded down, in
reply 0, the failure count in reply 1, reply 2 = 3; a mean of 1 to 1,000 mm is the working reference and the result
OK, with the level's state and alarms judged from it at once, and any other leaves the reference and is INVALID; the
pumps are commanded to their idle targets again where the pot is molten. The fifth failed echo ends it ABORTED with
reply 1 = 5, reply 2 = 3, reply 0 as it stood and the reference unchanged (R164). That TAKEN in R163's check means in
flight at the owner is the model's reading (assumption log, entry 24), and that a row whose time has not come changes
nothing is the model's choice (entry 4). The tick bounds of NO_EDGE and OVERRANGE, and that exactly 2,000 ms after
RAMPING is still quiet, are the model's choice (DESIGN CHOICE; assumption log, entry 21). -/
def Obligations.LevelCalibrateRuled : Prop :=
  (∀ (s : State) (c : CellNo) (n : Nat), s.ptc.calibrate = some { cell := c, phase := .quiet n } →
    (n + 10000 ≤ s.amc.ticks →
      exec .calibrateQuietExpiry s =
        .next { s with ptc := { s.ptc with calibrate := some { cell := c, phase := .sampling 0 0 0 } } }) ∧
      (s.amc.ticks < n + 10000 → exec .calibrateQuietExpiry s = .next s)) ∧
  (∀ (s : State) (c : CellNo), s.ptc.calibrate = some { cell := c, phase := .stopping } →
    s.hpx.phase ≠ .initialising → s.ptc.nextRamp ≤ s.amc.ticks →
    ∃ t, exec .pumpRampStep s = .next t ∧
      t.ptc.calibrate =
        some { cell := c,
               phase := if t.ptc.chip.state = .stopped ∧ t.ptc.main.state = .stopped then .quiet s.amc.ticks
                        else .stopping }) ∧
  (∀ (s : State) (c : CellNo) (sum n f : Nat) (u : UnitNo) (k : CountUnit) (d : Description),
    s.ptc.calibrate = some { cell := c, phase := .sampling sum n f } → echoClaimed s u k → s.amc.inForce = some d →
    ¬ quietEcho s → requestsLegal s →
    (∀ us, us ≤ 25000 → k.counting = true →
      let dist := us * 100 / d.usPerMm
      let mean := (sum + dist) / 16
      let good := 1 ≤ mean ∧ mean ≤ 1000
      let l := averaged s.ptc.distances dist
      let st := levelNamed d ((mean : Int) - ((l.sum / l.length : Nat) : Int))
      ∃ t, exec (.spanFallingEdge .echo us) s = .next t ∧
        (n + 1 ≠ 16 →
          t.ptc.calibrate = some { cell := c, phase := .sampling (sum + dist) (n + 1) f } ∧
            t.ptc.workingRef = s.ptc.workingRef) ∧
        (n + 1 = 16 →
          t.ptc.calibrate = none ∧ Ends c (if good then .ok else .invalid) t ∧ reply t c 0 = BitVec.ofNat 16 mean ∧
            reply t c 1 = BitVec.ofNat 16 f ∧ reply t c 2 = 3 ∧
            t.ptc.workingRef = (if good then some mean else s.ptc.workingRef) ∧ t.ptc.distances = l ∧
            (good → t.ptc.levelState = st ∧ t.present .solderLevelLow = decide (st = .lowLow) ∧
              t.present .solderLevelHigh = decide (st = .high)) ∧
            ∀ p, s.amc.profile = some p → s.amc.mode = .standby →
              s.ptc.pot.state = .ready ∨ s.ptc.pot.state = .deviation →
              t.ptc.chip.command = p.chipIdle ∧ t.ptc.main.command = p.mainIdle)) ∧
    ∀ x, echoFails s k x →
      ∃ t, exec x s = .next t ∧ t.ptc.workingRef = s.ptc.workingRef ∧
        (f + 1 ≠ 5 → t.ptc.calibrate = some { cell := c, phase := .sampling sum n (f + 1) }) ∧
        (f + 1 = 5 → t.ptc.calibrate = none ∧ Ends c .aborted t ∧ reply t c 1 = 5 ∧ reply t c 2 = 3 ∧
          reply t c 0 = reply s c 0)) ∧
  ∀ (c : CellNo) (s : State), s.isHanded c .levelCalibrate = true →
    let ready := s.ptc.feed = none ∧ s.amc.changeover = none ∧ s.amc.inForce ≠ none
    (s.amc.mode ≠ .standby →
      ∃ t, exec (.levelCalibrate c) s = .next t ∧ Ends c .mode t ∧ reply t c 2 = 0 ∧ TurnedAway c s t) ∧
      (s.amc.mode = .standby → ¬ ready →
        ∃ t, exec (.levelCalibrate c) s = .next t ∧ Ends c .notReady t ∧ reply t c 2 = 0 ∧ TurnedAway c s t) ∧
      (s.amc.mode = .standby → ready →
        ∃ t, exec (.levelCalibrate c) s = .next t ∧ t.ptc.chip.command = 0 ∧ t.ptc.main.command = 0 ∧
          (∃ ph, t.ptc.calibrate = some { cell := c, phase := ph }) ∧
          (s.ptc.chip.command = 0 → s.ptc.main.command = 0 → s.ptc.chip.state = .stopped →
            s.ptc.main.state = .stopped → t.ptc.calibrate = some { cell := c, phase := .quiet s.amc.ticks }))

/-- FEED_SOLDER by its checks in order: MODE, INVALID for a time outside 100 to 60,000 ms, NOT_READY; a level that is
HIGH or UNKNOWN ends it at once OK with reply 0 = 0 and the cause 1 or 2; otherwise the feeder feeds, with the feed
timer at 0. When its request timer expires it ends OK with the milliseconds fed and cause 0. An echo that makes the
level HIGH, or a failed one that makes it UNKNOWN, ends it OK with cause 1 or 2, and the pot's leaving READY and
DEVIATION, by a frame of POT_A below the melt point or otherwise, ends it ABORTED with cause 3: replies 0 and 2 hold
the milliseconds fed and the level, the feeder is IDLE and the feed timer 0; an echo that leaves the level otherwise
ends nothing. That TAKEN in R165's check means in flight at the owner is the model's reading (assumption log, entry
24), and that a row whose time has not come changes nothing is the model's choice (entry 4). The tick bounds of
NO_EDGE and OVERRANGE, and that exactly 2,000 ms after RAMPING is still quiet, are the model's choice (DESIGN CHOICE;
assumption log, entry 21). -/
def Obligations.FeedSolderRuled : Prop :=
  (∀ (s : State) (f : FeedRequest), s.ptc.feed = some f →
    (f.since + f.duration ≤ s.amc.ticks →
      ∃ t, exec .feedRequestTimerExpiry s = .next t ∧ Ends f.cell .ok t ∧
        reply t f.cell 0 = BitVec.ofNat 16 f.duration ∧ reply t f.cell 1 = 0 ∧ reply t f.cell 2 = s.levelHalf ∧
        t.ptc.feed = none ∧ t.ptc.feedTimer = 0 ∧ OnlyCell f.cell s t) ∧
      (s.amc.ticks < f.since + f.duration → exec .feedRequestTimerExpiry s = .next s)) ∧
  (∀ (s : State) (f : FeedRequest), s.ptc.feed = some f → requestsLegal s →
    let ended := fun (t : State) (r : RequestResult) (cause level : Half) =>
      Ends f.cell r t ∧ reply t f.cell 0 = BitVec.ofNat 16 (min f.duration (s.amc.ticks - f.since)) ∧
        reply t f.cell 1 = cause ∧ reply t f.cell 2 = level ∧ t.ptc.feed = none ∧ t.ptc.feeder = .idle ∧
        t.ptc.feedTimer = 0
    let molten := s.ptc.pot.state = .ready ∨ s.ptc.pot.state = .deviation
    (∀ u c d ref, echoClaimed s u c → s.amc.inForce = some d → ¬ quietEcho s → s.ptc.calibrate = none →
      s.ptc.workingRef = some ref →
      (∀ us, us ≤ 25000 → c.counting = true →
        let l := averaged s.ptc.distances (us * 100 / d.usPerMm)
        let level : Int := (ref : Int) - ((l.sum / l.length : Nat) : Int)
        ∃ t, exec (.spanFallingEdge .echo us) s = .next t ∧
          (levelNamed d level = .high → ended t .ok 1 (encSigned level)) ∧
          (levelNamed d level ≠ .high → molten → t.ptc.feed = some f ∧ t.ptc.feeder = s.ptc.feeder)) ∧
      ∀ x, echoFails s c x →
        ∃ t, exec x s = .next t ∧
          (4 ≤ s.ptc.echoFailures + 1 → ended t .ok 2 0xFFFF) ∧
          (s.ptc.echoFailures + 1 < 4 → t.ptc.feed = some f ∧ t.ptc.feeder = s.ptc.feeder)) ∧
    (s.ptc.levelState ≠ .high → s.ptc.levelState ≠ .unknown →
      (∀ st, s.ptc.pot.state ≠ st → st ≠ .ready → st ≠ .deviation →
        ∃ t, enterPot st s = t ∧ ended t .aborted 3 s.levelHalf) ∧
      ∀ (b0 b1 b2 b3 : Byte) (p : Profile) (k : Fin 8), s.tlk.nextFrame = some k → k.val = 6 → molten →
        s.amc.profile = some p → (b1 ++ b2).toInt < (p.melt : Int) → b0.getLsbD 7 = true →
        b3 = b0 ^^^ b1 ^^^ b2 ^^^ 0xA5 → b0.extractLsb' 4 3 = 0 →
        (∀ r, (s.tlk.channels[k]).reference = some r → b0.extractLsb' 0 4 = r + 1) →
        ∃ t, exec (.thermoFrame b0 b1 b2 b3) s = .next t ∧ ended t .aborted 3 s.levelHalf)) ∧
  ∀ (c : CellNo) (s : State), s.isHanded c .feedSolder = true →
    let n := (s.cellArg c 0).toNat
    let runs := s.amc.mode = .standby ∨ s.amc.mode = .production
    let inRange := 100 ≤ n ∧ n ≤ 60000
    let ready := (s.ptc.pot.state = .ready ∨ s.ptc.pot.state = .deviation) ∧ s.ptc.calibrate = none ∧
      s.amc.inForce ≠ none
    let turned := fun r : RequestResult => ∃ t, exec (.feedSolder c) s = .next t ∧ Ends c r t ∧ TurnedAway c s t
    (¬ runs → turned .mode) ∧ (runs → ¬ inRange → turned .invalid) ∧
      (runs → inRange → ¬ ready → turned .notReady) ∧
      (runs → inRange → ready → s.ptc.levelState = .high ∨ s.ptc.levelState = .unknown →
        ∃ t, exec (.feedSolder c) s = .next t ∧ Ends c .ok t ∧ reply t c 0 = 0 ∧
          reply t c 1 = (if s.ptc.levelState = .high then 1 else 2) ∧ t.ptc.feedTimer = 0 ∧
          t.ptc.feeder ≠ .blocked ∧ OnlyCell c s t) ∧
      (runs → inRange → ready → s.ptc.levelState ≠ .high → s.ptc.levelState ≠ .unknown →
        ∃ t, exec (.feedSolder c) s = .next t ∧
          t.ptc = { s.ptc with feeder := .feeding, feedTimer := 0,
                               feed := some { cell := c, since := s.amc.ticks, duration := n } } ∧
          t.xm = s.xm ∧ t.amc = s.amc)

/-- CANCEL of an index above 7 ends INVALID; of its own cell, of one that is not TAKEN, or of one with a short code,
NOTHING; of a cell TAKEN with a long code, OK, and the target is no longer TAKEN. A cancelled long request ends
CANCELLED at its owner, whatever its phase: FINISH gives the mode back to PRODUCTION, and nothing of the request stays
in flight. The replies of a cancelled request are not stated here (assumption log, entry 17). -/
def Obligations.CancelRuled : Prop :=
  (∀ (c : CellNo) (s : State), s.isHanded c .cancel = true →
    let n := (s.cellArg c 0).toNat
    (7 < n → ∃ t, exec (.cancel c) s = .next t ∧ Ends c .invalid t ∧ TurnedAway c s t) ∧
      (∀ x : CellNo, n = x.val →
        (x = c ∨ s.cellState x ≠ cellTaken ∨ ¬ ∃ r, Request.ofCode (s.cellCode x) = some r ∧ r.isLong = true) →
        ∃ t, exec (.cancel c) s = .next t ∧ Ends c .nothing t ∧ TurnedAway c s t) ∧
      ∀ (x : CellNo) (r : Request), n = x.val → x ≠ c → s.cellState x = cellTaken →
        Request.ofCode (s.cellCode x) = some r → r.isLong = true →
        ∃ t, exec (.cancel c) s = .next t ∧ Ends c .ok t ∧ t.cellState x ≠ cellTaken) ∧
  ∀ (c x : CellNo) (s : State), s.isHanded c .cancel = true → (s.cellArg c 0).toNat = x.val → x ≠ c →
    s.cellState x = cellTaken → s.hpx.handed.contains x = false →
    let ended := fun t : State => exec (.cancel c) s = .next t ∧ t.cellState x = cellDone ∧ t.byteAt (cellBase x + 1) = 5
    (s.cellCode x = 0x03 → s.amc.finish = some x →
      ∃ t, ended t ∧ t.amc.finish = none ∧ t.amc.mode = .production) ∧
      (s.cellCode x = 0x10 → requestsLegal s → ∀ ch, s.amc.changeover = some ch → ch.cell = x →
        ∃ t, ended t ∧ t.amc.changeover = none) ∧
      (s.cellCode x = 0x30 → ∀ m, s.cta.measure = some m → m.cell = x → ∃ t, ended t ∧ t.cta.measure = none) ∧
      (s.cellCode x = 0x40 → ∀ p, s.fxc.purge = some p → p.cell = x → ∃ t, ended t ∧ t.fxc.purge = none) ∧
      (s.cellCode x = 0x50 → requestsLegal s → ∀ k, s.ptc.calibrate = some k → k.cell = x →
        ∃ t, ended t ∧ t.ptc.calibrate = none) ∧
      (s.cellCode x = 0x51 → ∀ f, s.ptc.feed = some f → f.cell = x → ∃ t, ended t ∧ t.ptc.feed = none)

/-! ### The conveyor and the scanner -/

/-- The conveyor's pulses, ticks, eyes and stages. An encoder pulse counts in the prescaler residue, and the pulse
that brings it to the prescaler makes a millimetre tick; without a description in force pulses are not counted. At a
millimetre tick the travel advances by 1, the speed interval counts it, and the sampled states of the two eyes are
those read; the tick's sub-events are taken group by group in the sender's order. An entry-eye leading edge makes an
entry at the tail, or SCAN_START with it where P_scan is 0; a trailing edge gives it its length, which goes to its
docket and is checked; each stage event is due where its edge reaches its position; EXIT_OPEN opens the exit window,
EXIT_LATE finds a board late, a leading edge at the exit eye claims the head board or is a STRAY jam, and a trailing
edge takes it out: its docket DONE, GOOD or REJECT, or one board less unannounced, and with the map empty a FINISH in
flight is over and a changeover in DRAIN takes its SWITCH: the target is active with its stored settings, the conveyor
and the zones take them, and the changeover timer runs from now (R28). The order of the stage events within a tick
(assumption log, entry 26), the split of a pulse and its millimetre tick into two rows, that MM_TICK without a tick due
changes nothing (entries 4 and 6), and reply 0 of the changeover at its SWITCH (entry 30) are the model's choices. -/
def Obligations.EncoderPulsesAndTicks : Prop :=
  ∀ s : State,
    (s.amc.inForce = none → exec .encoderPulse s = .next s) ∧
    (∀ d, s.amc.inForce = some d →
      (s.cvt.residue + 1 < d.prescaler →
        exec .encoderPulse s = .next { s with cvt := { s.cvt with residue := s.cvt.residue + 1 } }) ∧
      (d.prescaler ≤ s.cvt.residue + 1 →
        exec .encoderPulse s =
          .next { s with cvt := { s.cvt with residue := 0, mmTicksDue := s.cvt.mmTicksDue + 1 } })) ∧
    ∀ (entry exit : Bool) (order : List TickPhase) (jam : JamOrder),
      Instr.wf (.mmTick entry exit order jam) = true →
      (s.cvt.mmTicksDue = 0 → exec (.mmTick entry exit order jam) s = .next s) ∧
      (s.cvt.mmTicksDue ≠ 0 →
        ∃ t, exec (.mmTick entry exit order jam) s = .next t ∧ t.cvt.travel = s.cvt.travel + 1 ∧
          t.cvt.mmTicksDue = s.cvt.mmTicksDue - 1 ∧ t.cvt.thisInterval = s.cvt.thisInterval + 1 ∧
          t.cvt.entryEye = entry ∧ t.cvt.exitEye = exit ∧ t.cvt.residue = s.cvt.residue ∧
          t.amc.ticks = s.amc.ticks) ∧
      (s.cvt.mmTicksDue ≠ 0 → s.entryBlockedDue = false → s.exitBlockedDue = false → s.sprayReady = false →
        s.changeoverSettled = false →
        let ticked : State :=
          { s with cvt := { s.cvt with
                              mmTicksDue := s.cvt.mmTicksDue - 1, travel := s.cvt.travel + 1,
                              thisInterval := s.cvt.thisInterval + 1,
                              stall := if 0 < s.cvt.reference then some s.amc.ticks else s.cvt.stall } }
        let phase := fun (gs : Word × State) (p : TickPhase) =>
          let x := gs.2
          match p with
          | .entryEye =>
            (gs.1, if entry = x.cvt.entryEye then x
                   else if entry then purgeLoss (entryLeading (x.upGrantAt gs.1) jam x) else entryTrailing x)
          | .exitEye =>
            (gs.1, if exit = x.cvt.exitEye then x else if exit then exitLeading jam x else exitTrailing x)
          | .stages =>
            (gs.1, match x.amc.inForce with
                   | none => x
                   | some d =>
                     evaluateBands
                       ((x.cvt.map.map (·.tLead)).foldl
                         (fun y board =>
                           match y.entryOf board with
                           | none => y
                           | some e => (entryStages d y.cvt.travel e).foldl (fun z st => issueStage board st z) y) x))
          | .exitStages =>
            (gs.1, match x.amc.inForce with
                   | none => x
                   | some d => (x.cvt.map.map (·.tLead)).foldl (fun y board => exitStagesOf d jam board y) x)
          | .gap => (x.cvt.travel, x)
        exec (.mmTick entry exit order jam) s = .next ((order.foldl phase (s.cvt.travel, ticked)).2)) ∧
    (∀ (d : Description) (travel : Word) (e : MapEntry) (x : Stage),
      x ∈ entryStages d travel e ↔
        stageDue d (travel - e.tLead).toNat (e.tTrail.map fun p => (travel - p).toNat) x) ∧
    (∀ (grant : Bool) (jam : JamOrder),
      (s.amc.mode = .config →
        entryLeading grant jam s = { s with cvt := { s.cvt with entryEye := true, entryTracked := false } }) ∧
      ∀ d, s.amc.inForce = some d → s.amc.mode ≠ .config → s.cvt.map.length < 12 →
        (∀ p ∈ [d.wScan, d.pFlux, d.pZone1, d.pPyro, d.pChip, d.pMain], 0 < p) →
        let target := if s.conveyorStop then 0 else s.conveyorSpeed
        let still := s.cvt.drive = .stopped ∨ s.cvt.drive = .stalled
        let t : State :=
          { s with cvt := { s.cvt with
                              entryEye := true, entryTracked := true, target := target,
                              drive :=
                                if target = s.cvt.target then s.cvt.drive
                                else if s.cvt.reference = 0 then
                                  if still ∧ target ≠ 0 then .ramping else s.cvt.drive
                                else if still then s.cvt.drive else .ramping,
                              map := s.cvt.map ++
                                [{ docket := none, tLead := s.cvt.travel, tTrail := none, entryTime := s.lineClock,
                                   held := !grant, progress := .entered }] } }
        (0 < d.pScan → entryLeading grant jam s = t) ∧
          (d.pScan = 0 → entryLeading grant jam s = scanStart s.cvt.travel t)) ∧
    (s.cvt.entryTracked = false →
      entryTrailing s = { s with cvt := { s.cvt with entryEye := false, entryTracked := false } }) ∧
    (∀ rest e, s.cvt.entryTracked = true → s.cvt.map = rest ++ [e] →
      let cvt := { s.cvt with entryEye := false, entryTracked := false,
                              map := rest ++ [{ e with tTrail := some s.cvt.travel }] }
      let len := (s.cvt.travel - e.tLead).toNat
      (e.docket = none → entryTrailing s = { s with cvt := cvt }) ∧
        ∀ n, e.docket = some n → s.onLine n = true → recipeGood s n 8 4 →
          let wrong := recipeHalf s n 10 < max len (recipeHalf s n 8) - min len (recipeHalf s n 8)
          ∃ t, entryTrailing s = t ∧ t.cvt = cvt ∧ resultHalf t n 52 = BitVec.ofNat 16 len ∧
            reasonIf s t n 0x0100 wrong ∧
            t.alarm .boardLengthMismatch =
              if wrong then
                recordedAs s .boardLengthMismatch .latched (BitVec.ofInt 16 ((len : Int) - recipeHalf s n 8)) (some n)
              else s.alarm .boardLengthMismatch) ∧
    (∀ (d : Description) (jam : JamOrder) (board : Word) (e : MapEntry), s.entryOf board = some e →
      let lead := (s.cvt.travel - board).toNat
      (lead = d.pExit - d.jam →
        ∃ t, exitStagesOf d jam board s = t ∧
          t = { s with xm := t.xm,
                       cvt := { s.cvt with
                                  map := s.cvt.map.map fun x =>
                                    if x.tLead = board then { x with progress := .exiting } else x } } ∧
          ∀ n, e.docket = some n → s.onLine n = true → t.byteAt (docketBase n + 34) = 5) ∧
        (lead = d.pExit + d.jam → lead ≠ d.pExit - d.jam →
          (e.progress = .exiting → jamPulsed s (exitStagesOf d jam board s) 4 e.docket) ∧
            (e.progress ≠ .exiting → exitStagesOf d jam board s = s)) ∧
        (lead ≠ d.pExit - d.jam → lead ≠ d.pExit + d.jam → exitStagesOf d jam board s = s)) ∧
    (∀ jam : JamOrder,
      (s.amc.mode = .config →
        exitLeading jam s = { s with cvt := { s.cvt with exitEye := true, exitEdge := none } }) ∧
      (∀ e rest, s.amc.mode ≠ .config → s.cvt.map = e :: rest → e.progress = .exiting →
        exitLeading jam s =
          { s with cvt := { s.cvt with exitEye := true, exitEdge := some s.cvt.travel,
                                       map := { e with progress := .atExit } :: rest } }) ∧
      (s.amc.mode ≠ .config → (∀ e, s.cvt.map.head? = some e → e.progress ≠ .exiting) →
        jamPulsed s (exitLeading jam s) 3 none)) ∧
    (s.cvt.exitEdge = none → exitTrailing s = { s with cvt := { s.cvt with exitEye := false } }) ∧
    ∀ e rest, s.cvt.exitEdge ≠ none → s.cvt.map = e :: rest →
      ∃ t, exitTrailing s = t ∧ t.cvt.map = rest ∧ t.cvt.exitEdge = none ∧ t.cvt.exitEye = false ∧
        (e.docket = none → t.dkc.unannounced = s.dkc.unannounced - 1) ∧
        (∀ n, e.docket = some n →
          t.docketState n = docketDone ∧ t.byteAt (docketBase n + 34) = 6 ∧ resultWord t n 48 = s.lineClock ∧
            t.byteAt (docketBase n + 35) = (if s.reasons n = 0 then 1 else 2) ∧ t.reasons n = s.reasons n ∧
            t.pins (s.recipeOf n) = BitVec.ofNat 8 ((s.pins (s.recipeOf n)).toNat - 1) ∧
            t.hpx.attn.getLsbD 0 = true) ∧
        (rest ≠ [] → t.amc.mode = s.amc.mode ∧ t.amc.finish = s.amc.finish) ∧
        (rest = [] → ∀ c, s.amc.finish = some c → requestsLegal s →
          Ends c .ok t ∧ reply t c 0 = 0 ∧ t.amc.finish = none ∧ t.amc.mode = .standby) ∧
        (rest ≠ [] → t.amc.changeover = s.amc.changeover ∧ t.amc.activeProfile = s.amc.activeProfile) ∧
        (rest = [] → ∀ ch, s.amc.changeover = some ch → ch.switchedAt = none →
          let f := storedProfile s ch.target.val
          t.amc.changeover = some { ch with switchedAt := some s.amc.ticks } ∧
            t.amc.activeProfile = BitVec.ofNat 8 ch.target.val ∧ t.amc.profile = some f ∧
            (requestsLegal s → reply t ch.cell 0 = BitVec.ofNat 16 ch.target.val) ∧
            (0 < t.cvt.target → t.cvt.target = f.speed) ∧
            ∀ z, s.amc.mode.works = true → t.amc.mode.works = true → (s.zone z).state ≠ .fault →
              (t.zone z).state = if (f.zones[z]).setpoint = 0 then .off else .settling)

/-- A jam, by ENTRY_BLOCKED or EXIT_BLOCKED where the tracked block has reached 701 mm, or by a leading edge that
finds the map full: BOARD_JAM is LATCHED with the cause's detail and docket, the conveyor map is empty, every docket
it named is DONE and ABORTED with TRACKING_LOST, nothing is under the flux bar, at the pyrometer or in the waves, no
read window is open, the drive is stopped, and a working mode is SAFE. A changeover in DRAIN is over with ABORTED: in
DRAIN with the old profile active where the pulse is taken first, past its SWITCH with the target active where the
discard is (R28, R30). Where neither block is due, neither command changes anything. Either order of the pulse and the
discard is an operand (assumption log, entry 7), and that nothing happens where no block is due is the model's choice
(entry 4). -/
def Obligations.JamsDiscardTheMap : Prop :=
  ∀ (jam : JamOrder) (s : State),
    let jammed := fun (t : State) (detail : Half) (docket : Option DocketNo) =>
      t.alarm .boardJam = recordedAs s .boardJam .latched detail docket ∧ t.cvt.map = [] ∧
        (∀ e ∈ s.cvt.map, ∀ d, e.docket = some d →
          t.docketState d = docketDone ∧ t.byteAt (docketBase d + 35) = 3 ∧ (t.reasons d).getLsbD 14 = true) ∧
        t.fxc.board = none ∧ t.phc.pyro = none ∧ (∀ z, (t.zone z).occupants = []) ∧ t.ptc.chipList = [] ∧
        t.ptc.mainList = [] ∧ t.dkc.window = none ∧ t.dkc.unannounced = 0 ∧ t.cvt.entryTracked = false ∧
        t.cvt.exitEdge = none ∧ (s.conveyorStop = false → t.cvt.reference = 0 ∧ t.cvt.target = 0) ∧
        t.amc.mode = safeOrSame s.amc.mode ∧
        ∀ ch, s.amc.changeover = some ch → ch.switchedAt = none → s.amc.mode.works = true → requestsLegal s →
          let active : Byte := match jam with
                               | .pulseFirst => s.amc.activeProfile
                               | .discardFirst => BitVec.ofNat 8 ch.target.val
          Ends ch.cell .aborted t ∧ t.amc.changeover = none ∧ t.amc.activeProfile = active ∧
            reply t ch.cell 0 = active.zeroExtend 16 ∧
            reply t ch.cell 1 = match jam with
                                | .pulseFirst => 1
                                | .discardFirst => 2
    (∀ rest e, s.cvt.map = rest ++ [e] → s.cvt.entryTracked = true → s.cvt.entryEye = true →
      (701 ≤ (s.cvt.travel - e.tLead).toNat →
        ∃ t, exec (.entryBlocked jam) s = .next t ∧ jammed t 2 e.docket) ∧
        ((s.cvt.travel - e.tLead).toNat < 701 → exec (.entryBlocked jam) s = .next s)) ∧
    (∀ e rest x, s.cvt.map = e :: rest → s.cvt.exitEdge = some x → s.cvt.exitEye = true →
      (701 ≤ (s.cvt.travel - x).toNat → ∃ t, exec (.exitBlocked jam) s = .next t ∧ jammed t 5 e.docket) ∧
        ((s.cvt.travel - x).toNat < 701 → exec (.exitBlocked jam) s = .next s)) ∧
    ∀ grant, s.amc.mode ≠ .config → 12 ≤ s.cvt.map.length → jammed (entryLeading grant jam s) 1 none

/-- A board at the flux bar, by its stage events (R120 to R125). FLUX_IN writes stage FLUXING; a bad host-flags byte
or a bad band is RECORD_PARITY; SKIP_FLUX and ENTRY_HELD leave the board unfluxed with the note; a recipe without
bands does nothing; without permission (PRODUCTION or DRAINING, the condition NORMAL or HOLD, the extraction RUNNING or
DEGRADED), or beside a spraying purge, the board is FLUX_INTERRUPTED; otherwise it is the current flux board with FXC's
FLOW claim. Band evaluation closes the valves off the bands and buffers the load of a
band newly found. FLUX_OUT, and a loss of permission before it, close the valves and write the valve-open time and the
dose of the FLOW count; FLUX_OUT checks the dose window, the loss is FLUX_INTERRUPTED, and both pulse FLUX_NO_FLOW for
no pulse in 1,000 ms or more. A FLOW claim whose count would pass its limit ends OVERRANGE, which the board keeps: its
dose is absent and its window check fails, with detail 32,767 (R124). -/
def Obligations.BoardsAtTheFluxBar : Prop :=
  (∀ s : State,
    (s.boardPermission = true ↔
      (s.amc.mode = .production ∨ s.amc.mode = .draining) ∧ (s.condition = .normal ∨ s.condition = .hold) ∧
        (s.exm.state = .running ∨ s.exm.state = .degraded)) ∧
    ∀ (b : FluxBoard) (u : UnitNo) (c : CountUnit), s.fxc.board = some b → s.unit u = some c →
      SoleClaim s u .flow → c.claim.source = .flow → c.claim.claimant = .fxc → c.claim.mode = .opened →
      c.counting = true → c.count = 1048575 →
      ∃ t, exec (.sourceEdge .flow) s = .next t ∧
        t.fxc = { s.fxc with board := some { b with flow := some .overrange } }) ∧
  (∀ (s : State) (board : Word) (n : DocketNo), carries s board n →
    let r := s.recipeOf n
    let flags := docketBase n + 3
    let reads := (recipeBase r + 14) :: bandsAddrs r (min 12 (s.bandCount r))
    let skips := (s.reasons n).getLsbD 10 = true ∨ (s.byteAt flags).getLsbD 0 = true
    ∃ t, issueStage board .fluxIn s = t ∧ t.byteAt (docketBase n + 34) = 2 ∧
      (s.xmBad flags = true → t.fxc = s.fxc ∧ badRecord s t n flags) ∧
      (s.xmBad flags = false → skips →
        t.fxc = s.fxc ∧ t.reasons n = s.reasons n ∧
          t.byteAt (docketBase n + 38) = s.byteAt (docketBase n + 38) ||| 2) ∧
      (s.xmBad flags = false → ¬ skips →
        t.byteAt (docketBase n + 38) = s.byteAt (docketBase n + 38) ∧
        (∀ a, reads.find? s.xmBad = some a → t.fxc = s.fxc ∧ badRecord s t n a) ∧
        ((∀ a ∈ reads, s.xmBad a = false) →
          (s.bandCount r = 0 → t.fxc = s.fxc ∧ t.reasons n = s.reasons n) ∧
          (s.bandCount r ≠ 0 → s.boardPermission = false ∨ s.spraying = true →
            t.fxc = s.fxc ∧ t.reasons n = s.reasons n ||| 0x0001) ∧
          (s.bandCount r ≠ 0 → s.boardPermission = true → s.spraying = false →
            t.reasons n = s.reasons n ∧
            (∃ b, t.fxc.board = some b ∧ b.board = board ∧ b.docket = n ∧ b.valveTime = 0 ∧ b.interrupted = false ∧
              b.flow = none ∧ b.bands = (storedBands s r).take 12) ∧
            ∀ u, s.standing .flow = none → s.freeUnit = some u →
              t.unit u = some { claim := blockClaim .flow .opened .fxc, counting := true, armed := s.amc.ticks,
                                openedAt := s.amc.ticks, count := 0 })))) ∧
  (∀ (s : State) (b : FluxBoard), s.fxc.board = some b →
    let off := (s.cvt.travel - b.board).toNat - s.pFlux
    let under := fun x : Band => x.first ≤ off ∧ off < x.last
    (b.interrupted = true → evaluateBands s = s) ∧
    (b.interrupted = false →
      ((∀ x ∈ b.bands, ¬ under x) →
        ∃ t, evaluateBands s = t ∧ t.fxc.valves = 0 ∧ t.fxc.active = none ∧ t.fxc.buffered = none ∧
          t.fxc.board = some { b with found := none } ∧ t = { s with fxc := t.fxc }) ∧
      ∀ i x, b.bands[i]? = some x → under x → (∀ j y, j < i → b.bands[j]? = some y → ¬ under y) →
        (b.found = some i → evaluateBands s = s) ∧
        (b.found ≠ some i →
          evaluateBands s =
            { s with fxc := { s.fxc with buffered := some x.load, board := some { b with found := some i } } }))) ∧
  (∀ (s : State) (b : FluxBoard), s.fxc.board = some b → s.spraying = false → b.interrupted = false →
    s.onLine b.docket = true → b.flow = some .overrange →
    let n := b.docket
    let written := fun t : State =>
      resultHalf t n 54 = 0xFFFF ∧ resultWord t n 56 = BitVec.ofNat 32 b.valveTime ∧ t.fxc.valves = 0 ∧
        t.fxc.active = none ∧ t.alarm .fluxNoFlow = s.alarm .fluxNoFlow
    (s.entryOf b.board ≠ none → recipeGood s n 112 4 →
      ∃ t, issueStage b.board .fluxOut s = t ∧ written t ∧ t.fxc.board = none ∧
        t.reasons n = s.reasons n ||| 0x0002 ∧
        t.alarm .fluxDoseOut = recordedAs s .fluxDoseOut .latched 32767 (some n)) ∧
    (s.boardPermission = false →
      ∃ t, fluxLoss s = t ∧ written t ∧ t.fxc.board = some { b with interrupted := true, flow := none } ∧
        t.reasons n = s.reasons n ||| 0x0001 ∧ t.alarm .fluxDoseOut = s.alarm .fluxDoseOut)) ∧
  ∀ (s : State) (b : FluxBoard) (f : Profile) (u : UnitNo) (c : CountUnit),
    s.fxc.board = some b → s.spraying = false → s.amc.profile = some f →
    let n := b.docket
    (b.interrupted = true → s.fxc.purge = none → s.entryOf b.board ≠ none →
      issueStage b.board .fluxOut s = { s with fxc := { s.fxc with board := none } }) ∧
    (b.interrupted = false → s.onLine n = true → b.flow = none → s.openUnit .flow .fxc = some u →
      s.unit u = some c →
      let dose := c.count * 1000 / f.kFactor
      let noFlow := c.count = 0 ∧ 1000 ≤ b.valveTime
      let written := fun t : State =>
        resultHalf t n 54 = BitVec.ofNat 16 (min dose 65534) ∧ resultWord t n 56 = BitVec.ofNat 32 b.valveTime ∧
          t.fxc.valves = 0 ∧ t.fxc.active = none ∧
          t.alarm .fluxNoFlow =
            if noFlow then recordedAs s .fluxNoFlow .latched (BitVec.ofNat 16 (min b.valveTime 32767)) (some n)
            else s.alarm .fluxNoFlow
      (s.entryOf b.board ≠ none → recipeGood s n 112 4 →
        let inside := recipeHalf s n 112 ≤ dose ∧ dose ≤ recipeHalf s n 114
        ∃ t, issueStage b.board .fluxOut s = t ∧ written t ∧ t.fxc.board = none ∧
          t.reasons n = s.reasons n ||| ((if inside then 0 else 0x0002) ||| (if noFlow then 0x0004 else 0)) ∧
          t.alarm .fluxDoseOut =
            if inside then s.alarm .fluxDoseOut
            else recordedAs s .fluxDoseOut .latched (BitVec.ofNat 16 (min dose 32767)) (some n)) ∧
      (s.boardPermission = false →
        ∃ t, fluxLoss s = t ∧ written t ∧ t.fxc.board = some { b with interrupted := true } ∧
          t.reasons n = s.reasons n ||| (0x0001 ||| (if noFlow then 0x0004 else 0))))

/-- A board in the zones, at the pyrometer and in the waves, by its stage events (R140 to R143, R157, R158). ZONEk_IN
joins the zone's occupancy set with the recipe's load boost, none for a board without a docket ON_LINE, and marks the
docket in a marking state of an enabled zone; ZONEk_OUT leaves it. PYRO_IN starts a passage, PYRO_OUT writes its
maximum and checks the board-top window. CHIP_IN, with CHIP_WAVE, and MAIN_IN join a pump's list and mark a pump that
is not AT_SPEED, MAIN_IN with the pot's temperature and state; MAIN_CROSS writes the contact time and checks its
window; the OUT events write the speeds and leave the list. A pump that leaves AT_SPEED marks every board in its
list, and an enabled zone that enters another state, one of SETTLING, DEVIATION and FAULT, marks every docket in its
occupancy set, and no other; one that enters READY or OFF, or has setpoint 0, marks nothing (R141). -/
def Obligations.BoardsInZonesAndWaves : Prop :=
  (∀ (s : State) (board : Word) (m : MapEntry) (z : ZoneNo), s.entryOf board = some m →
    let others := (s.zone z).occupants.filter fun o => o.board != board
    let joined := fun (d : Option DocketNo) (boost : Nat) =>
      s.phc.zones.set z { s.zone z with occupants := others ++ [{ board := board, docket := d, boost := boost }] }
    issueStage board (.zoneOut z) s =
        { s with phc := { s.phc with zones := s.phc.zones.set z { s.zone z with occupants := others } } } ∧
      ((∀ n, m.docket = some n → s.onLine n = false) →
        issueStage board (.zoneIn z) s = { s with phc := { s.phc with zones := joined none 0 } }) ∧
      ∀ n, m.docket = some n → s.onLine n = true →
        let marks := 0 < s.setpoint z ∧
          ((s.zone z).state = .settling ∨ (s.zone z).state = .deviation ∨ (s.zone z).state = .fault)
        ∃ t, issueStage board (.zoneIn z) s = t ∧
          (z.val = 0 → t.byteAt (docketBase n + 34) = 3) ∧
          (recipeGood s n 120 2 →
            t.phc = { s.phc with zones := joined (some n) (recipeHalf s n 120) } ∧ reasonIf s t n 0x0008 marks) ∧
          ∀ a, (span (recipeBase (s.recipeOf n) + 120) 2).find? s.xmBad = some a →
            t.phc = { s.phc with zones := joined (some n) 0 } ∧ badRecord s t n a) ∧
  (∀ (s : State) (board : Word) (n : DocketNo), carries s board n →
    ∃ t, issueStage board .pyroIn s = t ∧
      t.phc = { s.phc with pyro := some { board := board, docket := n, maximum := none, since := s.lineClock,
                                          nextClaim := s.amc.ticks + 50 } } ∧
      ∀ u, s.standing .pyro = none → s.freeUnit = some u →
        t.unit u = some { claim := blockClaim .pyro .span .phc, counting := false, armed := s.amc.ticks,
                          openedAt := s.amc.ticks, count := 0 }) ∧
  (∀ (s : State) (p : PyroPassage), s.phc.pyro = some p → s.entryOf p.board ≠ none → s.onLine p.docket = true →
    recipeGood s p.docket 116 4 →
    let outside := ¬ ∃ v, p.maximum = some v ∧ recipeHalf s p.docket 116 ≤ v ∧ v ≤ recipeHalf s p.docket 118
    ∃ t, issueStage p.board .pyroOut s = t ∧ t.phc = { s.phc with pyro := none } ∧
      resultHalf t p.docket 60 = (p.maximum.map (BitVec.ofNat 16)).getD 0xFFFF ∧
      (¬ outside → t.reasons p.docket = s.reasons p.docket ∧ t.alarm .boardTopOut = s.alarm .boardTopOut) ∧
      (outside → t.reasons p.docket = s.reasons p.docket ||| 0x0010 ∧
        t.alarm .boardTopOut =
          recordedAs s .boardTopOut .latched (BitVec.ofNat 16 (p.maximum.getD 32767)) (some p.docket))) ∧
  (∀ (s : State) (board : Word) (n : DocketNo), carries s board n →
    let joined := fun l : List Passage =>
      l.filter (fun m => m.board != board) ++
        [{ board := board, docket := n, minimum := none, maximum := none, inTime := s.lineClock }]
    (recipeGood s n 7 1 →
      ∃ t, issueStage board .chipIn s = t ∧ t.byteAt (docketBase n + 34) = 4 ∧
        ((s.byteAt (recipeBase (s.recipeOf n) + 7)).getLsbD 0 = false →
          t.ptc = s.ptc ∧ t.reasons n = s.reasons n) ∧
        ((s.byteAt (recipeBase (s.recipeOf n) + 7)).getLsbD 0 = true →
          t.ptc = { s.ptc with chipList := joined s.ptc.chipList } ∧
            reasonIf s t n 0x0040 (s.ptc.chip.state ≠ .atSpeed))) ∧
    ∃ t, issueStage board .mainIn s = t ∧ t.byteAt (docketBase n + 34) = 4 ∧
      t.ptc = { s.ptc with mainList := joined s.ptc.mainList } ∧
      resultHalf t n 62 = (s.potA.map encSignedHalf).getD 0xFFFF ∧
      t.reasons n =
        s.reasons n |||
          ((if s.ptc.pot.state = .ready then 0 else 0x0020) ||| (if s.ptc.main.state = .atSpeed then 0 else 0x0040))) ∧
  (∀ (s : State) (board : Word) (p : PumpId) (m : Passage), s.entryOf board ≠ none →
    (s.passages p).find? (fun x => x.board == board) = some m → s.onLine m.docket = true →
    let n := m.docket
    let time := (s.lineClock - m.inTime).toNat
    (p = .main → recipeGood s n 122 4 →
      ∃ t, issueStage board .mainCross s = t ∧ resultHalf t n 72 = BitVec.ofNat 16 (min time 65534) ∧
        reasonIf s t n 0x0080 (¬ (recipeHalf s n 122 ≤ time ∧ time ≤ recipeHalf s n 124)) ∧ t.ptc = s.ptc) ∧
    let off := match p with
               | .chip => 64
               | .main => 68
    ∃ t, issueStage board (match p with
                           | .chip => .chipOut
                           | .main => .mainOut) s = t ∧
      resultHalf t n off = m.minimum.getD 0xFFFF ∧ resultHalf t n (off + 2) = m.maximum.getD 0xFFFF ∧
      t.reasons n = s.reasons n ∧ t.passages p = (s.passages p).filter fun x => x.board != board) ∧
  (∀ (s : State) (p : PumpId) (r : Pump), (s.pump p).state = .atSpeed → r.state ≠ .atSpeed →
    ∀ m ∈ s.passages p, s.onLine m.docket = true → ((changePump p r s).reasons m.docket).getLsbD 6 = true) ∧
  ∀ (s : State) (z : ZoneNo) (st : ZoneState),
    let r := s.zone z
    let marks := r.state ≠ st ∧ (st = .settling ∨ st = .deviation ∨ st = .fault) ∧ 0 < s.setpoint z
    ∃ t, enterZone z st s = t ∧ (t.zone z).state = st ∧ (∀ y, y ≠ z → t.zone y = s.zone y) ∧
      (marks → ∀ n, t.reasons n =
        if s.onLine n = true ∧ r.occupants.any (fun o => o.docket == some n) = true then s.reasons n ||| 0x0008
        else s.reasons n) ∧
      (¬ marks → t.xm = s.xm)

/-- The scanner line and its window. A character is judged by the settings in force when it began, those of now or
those that a START since has replaced (R43): nothing where no scanner is present; held by the receiver, with OVERRUN
where the one before was not taken; taken with no window open, it is discarded; taken in the window, an ID character
joins the buffer, any other but CR, or a marked one, makes the message bad, and CR ends the message: a bad one, an
empty one or one above 24 characters counts as bad and the window stays, a good one closes the window and has the
arrival list searched from the head: the first docket with that ID is taken, wherever it stands, and those behind it
are not examined; with none, the first wildcard; with neither, the board is unannounced (R47). A docket examined whose
ID holds a bad byte is refused and the search goes on (R48). SCAN_START opens a window, closing one that stands as a
no-read; SCAN_END closes its own as a no-read, with SCANNER_NO_READ, and takes the list head under ORDER, unverified,
or no docket under STRICT; with no scanner present it takes the list head; a board that takes no docket is
unannounced. When the held character is taken is an operand of the model's choosing (assumption log, entry 11), and
that the line buffer is empty after a good message is its choice (entry 31). -/
def Obligations.ScannerCharacters : Prop :=
  (∀ (f : RxFrame) (s0 : State),
    let s := { s0 with dkc := { s0.dkc with rxPast := [] } }
    let set := s0.rxSettingsOf f
    (f.startsSince = 0 → set = s0.rxSettings) ∧
    (∀ k x, f.startsSince = k + 1 → s0.dkc.rxPast[k]? = some x → set = x) ∧
    (s0.rxSettings =
      match s0.amc.inForce with
      | some d => { present := d.scannerPresent, parity := d.scannerParity }
      | none => { present := false, parity := .none }) ∧
    (∀ prev now, set.present = false → exec (.scannerCharacter f prev now) s0 = .next s) ∧
    (set.present = true →
      let taken := exec (.scannerCharacter f false true) s0
      let c := rxCharOf set.parity f false
      let ends := s.dkc.bad = false ∧ 1 ≤ s.dkc.buffer.length ∧ s.dkc.buffer.length ≤ 24
      (exec (.scannerCharacter f false false) s0 =
        .next { s with dkc := { s.dkc with rxHeld := some (rxCharOf set.parity f s.dkc.rxHeld.isSome) } }) ∧
      (s.dkc.rxHeld = none → s.dkc.window = none → taken = .next s) ∧
      (∀ w, s.dkc.rxHeld = none → s.dkc.window = some w →
        (c.marked = false → 0x20 ≤ f.data.toNat → f.data.toNat ≤ 0x7E → s.dkc.buffer.length < 32 →
          taken =
            .next { s with
                      dkc := { s.dkc with buffer := s.dkc.buffer ++ [f.data],
                                          bad := s.dkc.bad || decide (24 ≤ s.dkc.buffer.length) } }) ∧
        (f.data ≠ 0x0D → c.marked = true ∨ ¬ (0x20 ≤ f.data.toNat ∧ f.data.toNat ≤ 0x7E) →
          taken = .next { s with dkc := { s.dkc with bad := true } }) ∧
        (f.data = 0x0D → c.marked = true ∨ ¬ ends →
          taken =
            .next { s with
                      dkc := { s.dkc with buffer := [], bad := false,
                                          window := some { w with badMessages := min 255 (w.badMessages + 1) } } }) ∧
        (f.data = 0x0D → c.marked = false → ends →
          ∃ t, taken = .next t ∧ t.dkc.window = none ∧ t.dkc.buffer = [] ∧ t.dkc.bad = false ∧
            ∀ e, s.entryOf w.board = some e →
              let list := s.dkc.arrival
              let noneIs := fun l : List DocketNo => ∀ x ∈ l, badId s x = false → ¬ isId s s.dkc.buffer x
              let noneWild := fun l : List DocketNo => ∀ x ∈ l, badId s x = false → s.idLength x ≠ 0
              (∀ front n back, list = front ++ n :: back → noneIs front → badId s n = false →
                isId s s.dkc.buffer n → searched s t w.board e (front ++ [n]) (some n)) ∧
              (noneIs list →
                (∀ front n back, list = front ++ n :: back → noneWild front → badId s n = false →
                  s.idLength n = 0 → searched s t w.board e list (some n)) ∧
                (noneWild list → searched s t w.board e list none)))))) ∧
  ∀ (s : State) (board : Word) (e : MapEntry), s.entryOf board = some e →
    let fresh : Option ReadWindow := some { board := board, badMessages := 0 }
    let noRead := fun (t : State) (w : ReadWindow) (d : Option DocketNo) =>
      t.alarm .scannerNoRead = recordedAs s .scannerNoRead .latched (BitVec.ofNat 16 w.badMessages) d
    (s.scannerPresent = false →
      issueStage board .scanStart s = s ∧
        (s.dkc.arrival = [] →
          ∃ t, issueStage board .scanEnd s = t ∧ t.dkc.unannounced = s.dkc.unannounced + 1 ∧
            (s.dkc.unannounced = 0 → t.present .boardUnannounced = true)) ∧
        ∀ n rest, s.dkc.arrival = n :: rest → ∃ t, issueStage board .scanEnd s = t ∧ matched s t board e n) ∧
    (s.scannerPresent = true →
      (s.dkc.window = none →
        issueStage board .scanStart s =
            { s with dkc := { s.dkc with window := fresh, buffer := [], bad := false } } ∧
          issueStage board .scanEnd s = s) ∧
      ∀ w, s.dkc.window = some w →
        (∃ t, issueStage board .scanStart s = t ∧ t.dkc.window = fresh ∧ t.dkc.buffer = [] ∧ t.dkc.bad = false ∧
          (s.policy = .strict → noRead t w none)) ∧
        (w.board ≠ board → issueStage board .scanEnd s = s) ∧
        (w.board = board →
          ∃ t, issueStage board .scanEnd s = t ∧ t.dkc.window = none ∧
            (s.policy = .strict ∨ s.dkc.arrival = [] →
              noRead t w none ∧ t.dkc.unannounced = s.dkc.unannounced + 1) ∧
            ∀ n rest, s.policy = .order → s.dkc.arrival = n :: rest →
              noRead t w (some n) ∧ matched s t board e n ∧
                (t.byteAt (docketBase n + 38)).getLsbD 0 = true))

/-- The conveyor's timed events: the speed measurement of two intervals with the drive state it gives, the ramp step
of 100 mm/min, and a stall: STALLED, reference and target 0, CONVEYOR_STALL LATCHED with the reference as its detail,
and a working mode SAFE. None of them changes anything before its time. That a row whose time has not come changes
nothing (assumption log, entry 4), and that a RAMPING drive whose target has gone back to 0 before its first step
becomes STOPPED at that step (entry 27), are the model's choices. -/
def Obligations.DriveEvents : Prop :=
  ∀ s : State,
    (s.hpx.phase ≠ .initialising → s.cvt.nextSpeed ≤ s.amc.ticks →
      let v := min 65535 ((s.cvt.thisInterval + s.cvt.prevInterval) * 60)
      let inside := (max v s.cvt.target - min v s.cvt.target) * 100 ≤ 3 * s.cvt.target
      exec .conveyorSpeedMeasurement s =
        .next { s with
                  cvt := { s.cvt with
                             nextSpeed := s.cvt.nextSpeed + 500, measuredSpeed := v,
                             prevInterval := s.cvt.thisInterval, thisInterval := 0,
                             drive :=
                               if s.cvt.reference = s.cvt.target ∧ 0 < s.cvt.target then
                                 match s.cvt.drive with
                                 | .ramping => if inside then .atSpeed else .ramping
                                 | .atSpeed => if inside then .atSpeed else .offSpeed
                                 | .offSpeed => if inside then .atSpeed else .offSpeed
                                 | .stopped => .stopped
                                 | .stalled => .stalled
                               else s.cvt.drive } }) ∧
    (s.amc.ticks < s.cvt.nextSpeed → exec .conveyorSpeedMeasurement s = .next s) ∧
    (s.hpx.phase ≠ .initialising → s.cvt.nextRamp ≤ s.amc.ticks →
      ∃ t, exec .driveRampStep s = .next t ∧ t.cvt.reference = stepped 100 s.cvt.reference s.cvt.target ∧
        t.cvt.nextRamp = s.cvt.nextRamp + 100 ∧ t.cvt.target = s.cvt.target ∧
        t.cvt.drive =
          (if stepped 100 s.cvt.reference s.cvt.target = 0 ∧ s.cvt.drive = .ramping then .stopped else s.cvt.drive) ∧
        t = { s with cvt := t.cvt }) ∧
    (s.amc.ticks < s.cvt.nextRamp → exec .driveRampStep s = .next s) ∧
    ∀ d t0, s.amc.inForce = some d → s.cvt.stall = some t0 → 0 < s.cvt.reference →
      (t0 + d.stallTime ≤ s.amc.ticks → s.conveyorStop = false →
        ∃ t, exec .conveyorStall s = .next t ∧ t.cvt.drive = .stalled ∧ t.cvt.reference = 0 ∧ t.cvt.target = 0 ∧
          t.cvt.stall = none ∧ t.cvt.map = s.cvt.map ∧ t.amc.mode = safeOrSame s.amc.mode ∧
          t.alarm .conveyorStall =
            recordedAs s .conveyorStall .latched (BitVec.ofNat 16 s.cvt.reference) none) ∧
      (s.amc.ticks < t0 + d.stallTime → exec .conveyorStall s = .next s)

/-- The neighbours' lines. UP_GRANT is asserted exactly while every condition of R74 holds, and DN_OFFER while an
exit-eye edge is claimed; flux approach clear (R76) is present while the entry eye is clear and every board's trailing
edge is past the flux bar. UP_OFFER is kept and acted on by nothing. DN_ACCEPT low in PRODUCTION or DRAINING runs the
downstream timer; otherwise the timer stops and DOWNSTREAM_NOT_READY's condition is absent. When the timer has passed
10,000 ms DOWNSTREAM_NOT_READY is raised with the number of boards in the map. A timer that runs goes on at a change
between PRODUCTION and DRAINING by the model's choice (assumption log, entry 27). That it has not yet passed 10,000 ms
when it has counted exactly as many (entry 21), and that a row whose time has not come changes nothing (entry 4), are
the model's choices too. -/
def Obligations.NeighbourLines : Prop :=
  ∀ s : State,
    (s.upGrant = true ↔
      s.amc.mode = .production ∧ s.condition = .normal ∧ s.cvt.drive = .atSpeed ∧ s.ptc.main.state = .atSpeed ∧
        (∀ f, s.amc.profile = some f → f.chipProduction = 0 ∨ s.ptc.chip.state = .atSpeed) ∧
        s.exm.state = .running ∧ s.cvt.map.length < 12 ∧
        (∀ rest e, s.cvt.map = rest ++ [e] →
          ∃ p, e.tTrail = some p ∧ ∀ f, s.amc.profile = some f → f.gap ≤ (s.cvt.travel - p).toNat) ∧
        s.cvt.entryEye = false ∧
        (∃ n rest, s.dkc.arrival = n :: rest ∧ s.byteAt (recipeBase (s.recipeOf n) + 6) = s.amc.activeProfile) ∧
        s.fxc.purge = none ∧ s.amc.changeover = none) ∧
    (s.dnOffer = true ↔ s.cvt.exitEdge ≠ none) ∧
    (∀ d, s.amc.inForce = some d →
      (s.fluxApproachClear = true ↔
        s.cvt.entryEye = false ∧
          ∀ e ∈ s.cvt.map, ∃ p, e.tTrail = some p ∧ d.pFlux ≤ (s.cvt.travel - p).toNat)) ∧
    (∀ level, exec (.upOfferChange level) s = .next { s with cvt := { s.cvt with upOffer := level } }) ∧
    (s.amc.mode.runs = true →
      exec (.dnAcceptChange false) s =
        .next { s with cvt := { s.cvt with dnAccept := false,
                                           downstream := some (s.cvt.downstream.getD s.amc.ticks) } }) ∧
    (∀ level, s.amc.mode.runs = false ∨ level = true →
      ∃ t, exec (.dnAcceptChange level) s = .next t ∧
        t.cvt = { s.cvt with dnAccept := level, downstream := none } ∧ t.present .downstreamNotReady = false ∧
        (∀ a, a ≠ .downstreamNotReady → t.alarm a = s.alarm a) ∧ t.xm = s.xm ∧ t.amc.mode = s.amc.mode) ∧
    ∀ t0, s.cvt.downstream = some t0 → s.present .downstreamNotReady = false →
      (t0 + 10000 < s.amc.ticks →
        ∃ t, exec .downstreamTimerExpiry s = .next t ∧ t.cvt = s.cvt ∧
          t.alarm .downstreamNotReady =
            recordedAs s .downstreamNotReady .active (BitVec.ofNat 16 s.cvt.map.length) none ∧ t.amc.mode = s.amc.mode) ∧
      (s.amc.ticks ≤ t0 + 10000 → exec .downstreamTimerExpiry s = .next s)

/-! ### Debounced inputs and the line clock -/

/-- A debounced level changes at its count (20 for the chain, 200 for the switches) and the count returns to 0; its
alarm's condition is then present exactly as the level says: SAFETY_CHAIN_OPEN while OPEN, with a working mode made
SAFE; FLUX_PRESSURE_LOW while not OK in PRODUCTION, DRAINING or a purge's spraying; FLUX_TANK_LOW while low outside
CONFIG. Below its count nothing changes. That a row whose time has not come changes nothing is the model's choice
(assumption log, entry 4). -/
def Obligations.DebouncedInputs : Prop :=
  ∀ s : State,
    (20 ≤ s.amc.chainCount →
      ∃ t, exec .safetyChainDebounce s = .next t ∧ t.amc.chainOpen = !s.amc.chainOpen ∧ t.amc.chainCount = 0 ∧
        t.present .safetyChainOpen = t.amc.chainOpen ∧
        (t.amc.chainOpen = true → t.amc.mode = safeOrSame s.amc.mode)) ∧
    (s.amc.chainCount < 20 → exec .safetyChainDebounce s = .next s) ∧
    (200 ≤ s.fxc.pressureCount →
      ∃ t, exec .pressureSwitchDebounce s = .next t ∧ t.fxc.pressureOk = !s.fxc.pressureOk ∧
        t.fxc.pressureCount = 0 ∧ t.amc.mode = s.amc.mode ∧
        t.present .fluxPressureLow = (!t.fxc.pressureOk && (t.amc.mode.runs || t.spraying))) ∧
    (s.fxc.pressureCount < 200 → exec .pressureSwitchDebounce s = .next s) ∧
    (200 ≤ s.fxc.tankCount →
      ∃ t, exec .tankSwitchDebounce s = .next t ∧ t.fxc.tankHigh = !s.fxc.tankHigh ∧ t.fxc.tankCount = 0 ∧
        t.amc.mode = s.amc.mode ∧
        t.present .fluxTankLow = (!t.fxc.tankHigh && decide (t.amc.mode ≠ .config))) ∧
    (s.fxc.tankCount < 200 → exec .tankSwitchDebounce s = .next s)

/-- The line clock stands still during power-on initialisation; after it each tick adds 1, wrapping at 2^32, and
samples the chain and the two switches, each count of disagreeing samples rising by 1 or returning to 0. The valve-open
time of the work in progress, a flux board that is not interrupted or a spraying purge, rises by 1 where a valve was
open in the interval that ends, standing open still or closed within it after some part (log 10), and not otherwise
(R119); the feed timer rises by 1 while the feeder is FEEDING with no FEED_SOLDER in flight, and stands still otherwise
(R161). Nothing else moves at the tick itself. (That events standing due are taken before the tick is the model's
choice: assumption log, entry 5; the state u below is the one they leave, s itself where none stands due. The premises
on the counts say that no debounce is due.) -/
def Obligations.LineClockTicks : Prop :=
  ∀ (i : TickInputs) (s : State),
    (s.hpx.phase = .initialising → exec (.lineClockTick i) s = .next s) ∧
    (s.hpx.phase ≠ .initialising →
      ∃ t, exec (.lineClockTick i) s = .next t ∧ t.amc.ticks = s.amc.ticks + 1 ∧ t.lineClock = s.lineClock + 1 ∧
        t.cvt.mmTicksDue = s.cvt.mmTicksDue ∧ t.cvt.travel = s.cvt.travel ∧ t.hpx.phase = s.hpx.phase ∧
        (s.amc.chainCount < 20 → t.amc.chainOpen = s.amc.chainOpen ∧
          t.amc.chainCount = if (!i.safetyOk) = s.amc.chainOpen then 0 else s.amc.chainCount + 1) ∧
        (s.fxc.pressureCount < 200 → t.fxc.pressureOk = s.fxc.pressureOk ∧
          t.fxc.pressureCount = if i.pressureClosed = s.fxc.pressureOk then 0 else s.fxc.pressureCount + 1) ∧
        (s.fxc.tankCount < 200 → t.fxc.tankHigh = s.fxc.tankHigh ∧
          t.fxc.tankCount = if i.tankHigh = s.fxc.tankHigh then 0 else s.fxc.tankCount + 1) ∧
        ∀ u, takeDue s = u →
          let wasOpen := u.fxc.valves ≠ 0 ∨ (u.fxc.closedPart = true ∧ i.valvePart = true)
          let counts := fun agrees : Bool => fun n : Nat => if agrees then 0 else n + 1
          t = { u with
                  amc := { u.amc with ticks := u.amc.ticks + 1,
                                      chainCount := counts (i.safetyOk != u.amc.chainOpen) u.amc.chainCount },
                  fxc := { u.fxc with
                             board := u.fxc.board.map fun b =>
                               if wasOpen ∧ b.interrupted = false then { b with valveTime := b.valveTime + 1 } else b,
                             purge := u.fxc.purge.map fun p =>
                               if wasOpen ∧ p.phase ≠ .wait then { p with valveTime := p.valveTime + 1 } else p,
                             closedPart := false,
                             pressureCount := counts (i.pressureClosed == u.fxc.pressureOk) u.fxc.pressureCount,
                             tankCount := counts (i.tankHigh == u.fxc.tankHigh) u.fxc.tankCount },
                  ptc := { u.ptc with
                             feedTimer := if u.ptc.feeder = .feeding ∧ u.ptc.feed = none then u.ptc.feedTimer + 1
                                          else u.ptc.feedTimer } })

/-! ### The counter array -/

/-- The edges that move a claim in its unit and nothing else: the gate of an ARMED RATE claim opens at a tick after
its grant; a rising edge of its source adds 1 to a COUNTING claim in mode RATE or OPEN; a rising edge starts an ARMED
SPAN claim. A source without a unit has no edge counted. That a row whose time has not come changes nothing is the
model's choice (assumption log, entry 4). -/
def Obligations.CountingEdges : Prop :=
  ∀ (u : UnitNo) (c : CountUnit) (s : State), s.unit u = some c → SoleClaim s u c.claim.source →
    let became := fun c' : CountUnit => Host.Outcome.next (φ := Fault) (ρ := Refusal)
      { s with cta := { s.cta with units := s.cta.units.set u (some c') } }
    (∀ g, c.claim.mode = .rate g → c.counting = false →
      (c.armed < s.amc.ticks → exec (.rateGateOpen u) s = became { c with counting := true, openedAt := s.amc.ticks }) ∧
        (s.amc.ticks ≤ c.armed → exec (.rateGateOpen u) s = .next s)) ∧
    (c.counting = true → c.claim.mode ≠ .span → c.count < 1048575 →
      exec (.sourceEdge c.claim.source) s = became { c with count := c.count + 1 }) ∧
    (c.counting = false ∨ c.claim.mode = .span → exec (.sourceEdge c.claim.source) s = .next s) ∧
    (c.claim.mode = .span → c.counting = false →
      exec (.spanRisingEdge c.claim.source) s = became { c with counting := true, openedAt := s.amc.ticks }) ∧
    ∀ src, (∀ v c', s.unit v = some c' → c'.claim.source ≠ src) →
      exec (.sourceEdge src) s = .next s ∧ exec (.spanRisingEdge src) s = .next s

/-- The ends of claims. Each writes the source's latest result: the value or absent, the status, the line clock, the
sequence number 1 higher. A gate closes OK with its count; a falling edge ends a SPAN OK with its microseconds; the
count that would pass 1,048,575 ends a claim OVERRANGE; a SPAN without an edge for 30 ms ends NO_EDGE, one without a
falling edge OVERRANGE; and where the claim is DIAG's own, or DIAG follows it and no other, the MEASURE ends OK with
the result, its sequence count and the claim's mode in its replies, reply 6 = 0 for DIAG's own claim and 1 for one DIAG
was merged into. A FLOW claim that finds no unit free preempts the RATE claim with the latest armed time, the
lowest unit among equals, which ends ABANDONED and is claimed again behind those that wait; a block's claim displaces
DIAG's own of the same source, which ends ABANDONED (R100, R101, R106; what follows within the event: assumption log,
entry 14). The tick bounds of NO_EDGE and OVERRANGE, which the manual gives in microseconds, are the model's choice
(assumption log, entry 21), as is that a row not due changes nothing (entry 4). -/
def Obligations.ClaimsEndWithResults : Prop :=
  let replied := fun (s t : State) (m : Measure) (k : Claim) (status : ResultStatus) (value : Option Nat) =>
    Ends m.cell .ok t ∧ t.cta.measure = none ∧
      replyWord t m.cell 0 = (value.map (BitVec.ofNat 32)).getD 0xFFFFFFFF ∧
      reply t m.cell 2 = BitVec.ofNat 16 status.code ∧
      reply t m.cell 3 = (resultOf s k.source status value).seq.zeroExtend 16 ∧ replyWord t m.cell 4 = s.lineClock ∧
      reply t m.cell 6 = (if k.claimant = .diag ∧ k.merged = false then 0 else 1) ∧
      reply t m.cell 7 = match k.mode with
                         | .rate _ => 0
                         | .opened => 1
                         | .span => 2
  (∀ (u : UnitNo) (c : CountUnit) (s : State), s.unit u = some c → SoleClaim s u c.claim.source →
    let ended := fun (x : Instr) (status : ResultStatus) (value : Option Nat) =>
      ∃ t, exec x s = .next t ∧
        t.cta.results[srcNumber c.claim.source] = resultOf s c.claim.source status value ∧
        ∀ m, s.cta.measure = some m →
          (c.claim.claimant = .diag ∨ (c.claim.follower = true ∧ requestsLegal s ∧ DiagOnly s c.claim.source)) →
          replied s t m c.claim status value
    (c.counting = true →
      (∀ g, c.claim.mode = .rate g →
        (c.openedAt + g ≤ s.amc.ticks → ended (.rateGateClose u) .ok (some c.count)) ∧
          (s.amc.ticks < c.openedAt + g → exec (.rateGateClose u) s = .next s)) ∧
      (c.claim.mode ≠ .span → c.count = 1048575 → ended (.sourceEdge c.claim.source) .overrange none) ∧
      (c.claim.mode = .span →
        (∀ us, us ≤ 25000 → ended (.spanFallingEdge c.claim.source us) .ok (some us)) ∧
          (c.openedAt + 25 ≤ s.amc.ticks → ended (.spanOverrange c.claim.source) .overrange none) ∧
          (s.amc.ticks < c.openedAt + 25 → exec (.spanOverrange c.claim.source) s = .next s))) ∧
    (c.counting = false → c.claim.mode = .span →
      (c.armed + 30 ≤ s.amc.ticks → ended (.spanNoEdge c.claim.source) .noEdge none) ∧
        (s.amc.ticks < c.armed + 30 → exec (.spanNoEdge c.claim.source) s = .next s))) ∧
  (∀ (s : State) (u : UnitNo) (c : CountUnit), preempted s u c → SoleClaim s u c.claim.source →
    s.standing .flow = none →
    ∃ t, placeFlow s = t ∧
      t.unit u = some { claim := blockClaim .flow .opened .fxc, counting := true, armed := s.amc.ticks,
                        openedAt := s.amc.ticks, count := 0 } ∧
      (∀ v, v ≠ u → t.unit v = s.unit v) ∧
      t.cta.results[srcNumber c.claim.source] = resultOf s c.claim.source .abandoned none ∧
      t.cta.queue = s.cta.queue ++ placedAgain s c.claim ∧
      ∀ m, s.cta.measure = some m → c.claim.claimant = .diag ∨ c.claim.follower = true →
        replied s t m c.claim .abandoned none) ∧
  ∀ (s : State) (src : Source) (mode : CountMode) (who : Claimant) (u : UnitNo) (c : CountUnit) (m : Measure),
    s.unitOf src = some u → s.unit u = some c → c.claim.claimant = .diag → s.cta.measure = some m →
    ∃ t, placeBlock src mode who s = t ∧ t.cta.measure = none ∧
      t.unit u = some { claim := blockClaim src mode who, counting := mode == .opened, armed := s.amc.ticks,
                        openedAt := s.amc.ticks, count := 0 } ∧
      (∀ v, v ≠ u → t.unit v = s.unit v) ∧ t.cta.queue = s.cta.queue ∧
      t.cta.results[srcNumber src] = resultOf s src .abandoned none ∧ replied s t m c.claim .abandoned none

/-- The results that a block places its claim for: MAIN's speed from a 500 ms gate, the fan's from a 1,000 ms gate,
the echo's distance, kept with at most the seven before it, and the pyrometer's maximum. After a valid echo the level,
the working reference less the average distance, has its state by the four thresholds and their alarms stand
accordingly (R159, R160), and with no FEED_SOLDER in flight the feeder begins at LOW or LOW_LOW and stops at feed-off,
where feeding is not allowed, or at HIGH (R161). An echo that ends without OK adds 1 to the failure run and moves no
level below its count of 4; from 4 on the average is empty, the level UNKNOWN and the echo lost, LEVEL_ECHO_LOST
present, the two level conditions absent, and a feeding feeder stops (R159 to R161). An echo that ends while MAIN is
RAMPING or within 2,000 ms after it left RAMPING is discarded, valid or failed (R159). That an alarm's condition is
present exactly while its entry is ACTIVE or HELD is the model's reading (DEDUCED; assumption log, entry 15). The tick
bounds of NO_EDGE and OVERRANGE, and that exactly 2,000 ms after RAMPING is still quiet, are the model's choice
(DESIGN CHOICE; assumption log, entry 21). -/
def Obligations.ResultsReachTheirBlocks : Prop :=
  (∀ (u : UnitNo) (c : CountUnit) (s : State) (x : Instr), echoClaimed s u c →
    (quietEcho s → echoFails s c x ∨ (c.counting = true ∧ ∃ us, us ≤ 25000 ∧ x = .spanFallingEdge .echo us) →
      ∃ t, exec x s = .next t ∧ t.ptc = s.ptc) ∧
    (¬ quietEcho s → echoFails s c x →
      let run := s.ptc.echoFailures + 1
      ∃ t, exec x s = .next t ∧ t.ptc.echoFailures = run ∧
        (run < 4 → s.ptc.calibrate = none → t.ptc = { s.ptc with echoFailures := run }) ∧
        (run < 4 → t.ptc.distances = s.ptc.distances ∧ t.ptc.levelState = s.ptc.levelState ∧
          t.ptc.echoLost = s.ptc.echoLost) ∧
        (4 ≤ run → t.ptc.distances = [] ∧ t.ptc.levelState = .unknown ∧ t.ptc.echoLost = true ∧
          alarmJudged s t .levelEchoLost True 0 ∧ t.present .solderLevelLow = false ∧
          t.present .solderLevelHigh = false ∧
          (s.ptc.calibrate = none → s.ptc.feed = none →
            t.ptc.feeder = if s.ptc.feeder = .feeding then .idle else s.ptc.feeder)))) ∧
  ∀ (u : UnitNo) (c : CountUnit) (s : State), s.unit u = some c → SoleClaim s u c.claim.source → c.counting = true →
    ∀ d, s.amc.inForce = some d →
    (c.claim.claimant = .ptc → c.claim.source = .tachMain → c.claim.mode = .rate 500 →
      c.openedAt + 500 ≤ s.amc.ticks → c.count * 120 / d.pprMain < 65536 →
      ∃ t, exec (.rateGateClose u) s = .next t ∧
        t.ptc.main.measured = some (BitVec.ofNat 16 (c.count * 120 / d.pprMain)) ∧
        t.ptc.main.lastResult = some s.amc.ticks) ∧
    (c.claim.claimant = .exm → c.claim.source = .tachFan → c.claim.mode = .rate 1000 →
      c.openedAt + 1000 ≤ s.amc.ticks → c.count * 60 / d.pprFan < 65536 →
      ∃ t, exec (.rateGateClose u) s = .next t ∧
        t.exm.fanRpm = some (BitVec.ofNat 16 (c.count * 60 / d.pprFan)) ∧ t.exm.state = s.exm.state) ∧
    (∀ us, us ≤ 25000 → c.claim.claimant = .ptc → c.claim.source = .echo → c.claim.mode = .span →
      s.ptc.main.state ≠ .ramping → (∀ t0, s.ptc.mainLeftRamping = some t0 → t0 + 2000 < s.amc.ticks) →
      ∃ t, exec (.spanFallingEdge .echo us) s = .next t ∧
        t.ptc.distances =
          (s.ptc.distances ++ [us * 100 / d.usPerMm]).drop (s.ptc.distances.length + 1 - 8) ∧
        t.ptc.echoFailures = 0 ∧ t.ptc.echoLost = false ∧
        ∀ ref, s.ptc.calibrate = none → s.ptc.workingRef = some ref →
          let l := t.ptc.distances
          let level : Int := (ref : Int) - ((l.sum / l.length : Nat) : Int)
          let st := levelNamed d level
          t.ptc.levelState = st ∧ t.present .solderLevelLow = decide (st = .lowLow) ∧
            t.present .solderLevelHigh = decide (st = .high) ∧ t.present .levelEchoLost = false ∧
            (s.ptc.feed = none →
              let allowed := (s.ptc.pot.state = .ready ∨ s.ptc.pot.state = .deviation) ∧ s.amc.mode.works = true
              t.ptc.feeder = feederNamed s.ptc.feeder st (d.feedOff ≤ level) allowed ∧
                t.ptc.feedTimer = if d.feedOff ≤ level ∧ s.ptc.feeder ≠ .blocked then 0 else s.ptc.feedTimer)) ∧
    ∀ us p, us ≤ 1000 → c.claim.claimant = .phc → c.claim.source = .pyro → c.claim.mode = .span →
      s.phc.pyro = some p →
      ∃ t, exec (.spanFallingEdge .pyro us) s = .next t ∧
        t.phc.pyro = some { p with maximum := some (max (4 * us) (p.maximum.getD 0)) }

/-! ### The sensor links -/

/-- The thermo link. A round starts at its tick, at Z1; that it does so with frames of the round before outstanding is
the model's reading (DEDUCED; assumption log, entry 22). A good frame gives the channel its temperature, ends the
suspicion and the bad run, and takes the count on; a bad one keeps the last good value, makes it suspect and counts in
the bad run; the turn passes on. The third bad frame in a row faults the channel, and the third good one restores it,
with the notice to its block (R113): a zone of a working mode is FAULT with its heater off, and a zone in FAULT leaves
it for OFF or SETTLING, judged by the restoring frame (R137). A good frame of a zone that is not too hot moves its
state by the band (R135) and buffers the duty of the control law (R136); one above 400.0 °C, or above the setpoint by
more than the margin, is an overtemperature: heater off, a working mode SAFE, until a good frame within the limits
(R138). A good frame of POT_A moves the pot by the melt point and the band (R149) and buffers its duty (R150); one of
POT_B above 330.0 °C is the pot's overtemperature, and one that is not ends it (R152). Either judges the disagreement,
and POT_SENSOR follows the sensor fault with detail 1, 2 or 3, a working mode SAFE with the pot OFF (R151). After a
zone's frame ZONE_DEVIATION is present exactly in PRODUCTION, outside SETTLE, with an enabled zone SETTLING or
DEVIATION, its detail the lowest (R139), and ZONE_SENSOR with an enabled zone in FAULT (R137); where the frame takes
the zone, enabled, into SETTLING, DEVIATION or FAULT, every docket ON_LINE in its occupancy set is marked
ZONE_DEVIATION, and no other (R141). POT_NOT_READY is judged where the pot's state changes (R152). A condition present
exactly while its entry is ACTIVE or HELD is the model's reading (DEDUCED; entry 15), as is that a row not due changes
nothing (DESIGN CHOICE; entry 4). -/
def Obligations.ThermoLink : Prop :=
  ∀ s : State,
    (s.hpx.phase ≠ .initialising → s.tlk.nextRound ≤ s.amc.ticks →
      exec .thermoRoundStart s =
        .next { s with tlk := { s.tlk with nextFrame := some 0, nextRound := s.tlk.nextRound + 100 } }) ∧
    (s.amc.ticks < s.tlk.nextRound → exec .thermoRoundStart s = .next s) ∧
    ∀ b0 b1 b2 b3 : Byte,
      let x := exec (.thermoFrame b0 b1 b2 b3) s
      (s.tlk.nextFrame = none → x = .next s) ∧
      ∀ k, s.tlk.nextFrame = some k →
        let ch := s.tlk.channels[k]
        let whole := b0.getLsbD 7 = true ∧ b3 = b0 ^^^ b1 ^^^ b2 ^^^ 0xA5
        let good := whole ∧ (∀ r, ch.reference = some r → b0.extractLsb' 0 4 = r + 1) ∧ b0.extractLsb' 4 3 = 0
        let turns := fun t : State =>
          t.tlk.nextFrame = (if h : k.val + 1 < 8 then some ⟨k.val + 1, h⟩ else none) ∧
            ∀ j, j ≠ k → t.tlk.channels[j] = s.tlk.channels[j]
        (good → ∃ t, x = .next t ∧ turns t ∧ (t.tlk.channels[k]).lastGood = some (b1 ++ b2) ∧
          (t.tlk.channels[k]).suspect = false ∧ (t.tlk.channels[k]).badRun = 0 ∧
          (t.tlk.channels[k]).reference = some (b0.extractLsb' 0 4) ∧
          (t.tlk.channels[k]).goodRun = min 3 (ch.goodRun + 1)) ∧
        (¬ good → ∃ t, x = .next t ∧ turns t ∧ (t.tlk.channels[k]).lastGood = ch.lastGood ∧
          (t.tlk.channels[k]).suspect = true ∧ (t.tlk.channels[k]).goodRun = 0 ∧
          (t.tlk.channels[k]).badRun = min 3 (ch.badRun + 1) ∧
          (t.tlk.channels[k]).reference =
            (if whole then some (b0.extractLsb' 0 4) else ch.reference.map (· + 1))) ∧
        (let fault := ¬ good ∧ 2 ≤ ch.badRun ∧ ch.faulted = false
        let restore := good ∧ 2 ≤ ch.goodRun ∧ ch.faulted = true
        let temp := (b1 ++ b2).toInt
        ∃ t, x = .next t ∧ noticed fault restore ch.faulted (t.tlk.channels[k]).faulted ∧
          (∀ z : ZoneNo, k.val = z.val →
            noticed fault restore (s.zone z).sensorFaulted (t.zone z).sensorFaulted ∧
              ∀ (f : Profile) (d : Description), good → s.amc.profile = some f → s.amc.inForce = some d →
                let r := s.zone z
                let c := f.zones[z]
                let inside := near temp c.setpoint c.band
                temp ≤ 4000 → (0 < c.setpoint → temp ≤ ((c.setpoint + d.margin : Nat) : Int)) →
                (∀ y, y ≠ z → (s.zone y).overtemp = false) →
                (t.zone z).overtemp = false ∧ t.present .zoneOvertemp = false ∧
                  (restore → s.classOut .safe = false →
                    (r.state = .off → (t.zone z).state = .off) ∧
                      (r.state = .fault → (t.zone z).state = (if c.setpoint = 0 then .off else .settling) ∧
                        (0 < c.setpoint → (t.zone z).settle = (if inside then some s.amc.ticks else none) ∧
                          ∀ boost, isBoost r.occupants boost →
                            (t.zone z).bufferedDuty =
                              some (lawDuty c.hold c.setpoint c.band temp boost c.maxDuty))))) ∧
          (∀ z : ZoneNo, k.val = z.val →
            (t.present .zoneDeviation = true ↔ zonesDeviate t) ∧ (t.present .zoneSensor = true ↔ zonesFault t) ∧
              (t.amc.mode = s.amc.mode → deviationJudged s t ∧ zoneSensorJudged s t ∧
                ∀ n, (t.reasons n).getLsbD 3 = true ↔
                  (s.reasons n).getLsbD 3 = true ∨
                    (s.onLine n = true ∧ (t.zone z).state ≠ (s.zone z).state ∧ 0 < s.setpoint z ∧
                      ((t.zone z).state = .settling ∨ (t.zone z).state = .deviation ∨ (t.zone z).state = .fault) ∧
                      ∃ o ∈ (s.zone z).occupants, o.docket = some n))) ∧
          (6 ≤ k.val → t.amc.mode = s.amc.mode →
            (t.ptc.pot.state = s.ptc.pot.state → t.alarm .potNotReady = s.alarm .potNotReady) ∧
              (t.ptc.pot.state ≠ s.ptc.pot.state → potReadyJudged s t)) ∧
          (6 ≤ k.val →
            let other := if k.val = 6 then s.potB else s.potA
            let p := t.ptc.pot
            (k.val = 6 → noticed fault restore s.ptc.pot.faultA p.faultA ∧ p.faultB = s.ptc.pot.faultB) ∧
              (k.val = 7 → noticed fault restore s.ptc.pot.faultB p.faultB ∧ p.faultA = s.ptc.pot.faultA) ∧
              (∀ v, good → other = some v → p.disagreement = decide (150 < (temp - v.toInt).natAbs)) ∧
              (¬ good ∨ other = none → p.disagreement = s.ptc.pot.disagreement) ∧
              (s.ptc.pot.sensorFault = false → p.sensorFault = true →
                t.present .potSensor = true ∧ t.amc.mode = safeOrSame s.amc.mode ∧
                  (s.amc.mode.works = true → p.state = .off ∧ p.heaterOn = false ∧ p.activeDuty = 0) ∧
                  (s.present .potSensor = false →
                    t.alarm .potSensor =
                      recordedAs s .potSensor .active (if p.faultA then 1 else if p.faultB then 2 else 3) none)) ∧
              (p.sensorFault = false → t.present .potSensor = false) ∧
              (k.val = 7 → good → temp ≤ 3300 → p.overtemp = false ∧ t.present .potOvertemp = false))) ∧
        (∀ z : ZoneNo, ¬ good → k.val = z.val → ch.badRun = 2 → ch.faulted = false → s.amc.mode.works = true →
          s.classOut .safe = false → (∀ y, (s.zone y).overtemp = false) →
          ∃ t, x = .next t ∧ (t.tlk.channels[k]).faulted = true ∧ (t.zone z).state = .fault ∧
            (t.zone z).sensorFaulted = true ∧ (t.zone z).heaterOn = false ∧ (t.zone z).activeDuty = 0) ∧
        ∀ (f : Profile) (d : Description), good → ch.faulted = false → s.amc.profile = some f →
          s.amc.inForce = some d → s.classOut .safe = false →
          let temp := (b1 ++ b2).toInt
          (∀ z : ZoneNo, k.val = z.val → (∀ y, (s.zone y).overtemp = false) →
            let r := s.zone z
            let c := f.zones[z]
            let hot := 4000 < temp ∨ (0 < c.setpoint ∧ ((c.setpoint + d.margin : Nat) : Int) < temp)
            let inside := near temp c.setpoint c.band
            (¬ hot → ∃ t, x = .next t ∧ t.amc.mode = s.amc.mode ∧
              (t.zone z).state =
                (match r.state with
                 | .ready => if inside then .ready else .deviation
                 | .deviation => if inside then .ready else .deviation
                 | st => st) ∧
              (r.state = .settling →
                (t.zone z).settle = if inside then some (r.settle.getD s.amc.ticks) else none) ∧
              ((r.state = .off ∨ r.state = .fault) → (t.zone z).bufferedDuty = r.bufferedDuty) ∧
              (r.state ≠ .off → r.state ≠ .fault → ∀ boost, isBoost r.occupants boost →
                (t.zone z).bufferedDuty = some (lawDuty c.hold c.setpoint c.band temp boost c.maxDuty))) ∧
            (hot → ∃ t, x = .next t ∧ (t.zone z).overtemp = true ∧ (t.zone z).activeDuty = 0 ∧
              (t.zone z).bufferedDuty = none ∧ (t.zone z).heaterOn = false ∧ t.present .zoneOvertemp = true ∧
              t.amc.mode = safeOrSame s.amc.mode)) ∧
          (k.val = 6 → s.ptc.pot.sensorFault = false → s.ptc.pot.overtemp = false →
            (∀ b, s.potB = some b → (temp - b.toInt).natAbs ≤ 150) →
            let r := s.ptc.pot
            let below := temp < (f.melt : Int)
            let inside := near temp f.potSetpoint f.potBand
            let duty := lawDuty f.potHold f.potSetpoint f.potBand temp 0 f.potMax
            ∃ t, x = .next t ∧ t.amc.mode = s.amc.mode ∧
              t.ptc.pot.state =
                (match r.state with
                 | .melting => if below then .melting else .heating
                 | .heating => if below then .melting else .heating
                 | .ready => if below then .melting else if inside then .ready else .deviation
                 | .deviation => if below then .melting else if inside then .ready else .deviation
                 | .off => .off
                 | .fault => .fault) ∧
              (r.state = .heating → ¬ below →
                t.ptc.pot.settle = if inside then some (r.settle.getD s.amc.ticks) else none) ∧
              t.ptc.pot.bufferedDuty =
                (match t.ptc.pot.state with
                 | .melting => some (min duty f.meltCap)
                 | .heating => some duty
                 | .ready => some duty
                 | .deviation => some duty
                 | .off => r.bufferedDuty
                 | .fault => r.bufferedDuty)) ∧
          (k.val = 7 → s.ptc.pot.sensorFault = false → s.ptc.pot.overtemp = false →
            (∀ a, s.potA = some a → (a.toInt - temp).natAbs ≤ 150) → 3300 < temp →
            ∃ t, x = .next t ∧ t.ptc.pot.overtemp = true ∧ t.ptc.pot.activeDuty = 0 ∧
              t.ptc.pot.bufferedDuty = none ∧ t.ptc.pot.heaterOn = false ∧ t.present .potOvertemp = true ∧
              t.amc.mode = safeOrSame s.amc.mode)

/-- The fume link. A poll starts at its tick, of DUCT at the even hundreds and of FILTER 100 ms after, while a
description is in force; that it takes the place of a poll that has not ended, of which R114 does not speak, is the
model's reading (DEDUCED; assumption log, entry 22), and that a poll which a START has overtaken ends and counts like
any other its choice (DESIGN CHOICE; entry 28). Three bytes with the right CRC end it good: the pressure is published
and the failure run is 0; any other end adds to the failure run and publishes nothing. At the fifth failure in a row
the channel has a link fault, and at the third good poll in a row it has none; EXM records either (R115), and while its
conditions are judged SENSOR_LINK follows: present, with the sensor's number as the alarm's detail and the state LOST,
at the first fault, and absent when the last one clears (R171); the grace timer starts where the state enters LOST and
stops where it leaves it (R172). That a row whose time has not come changes nothing is
the model's choice (assumption log, entry 4). -/
def Obligations.FumeLink : Prop :=
  ∀ s : State,
    (s.hpx.phase ≠ .initialising → s.flk.nextPoll ≤ s.amc.ticks →
      (s.amc.inForce = none →
        exec .fumePollStart s = .next { s with flk := { s.flk with poll := none, nextPoll := s.flk.nextPoll + 100 } }) ∧
      ∀ d, s.amc.inForce = some d →
        let poll : FumePoll :=
          if s.flk.nextPoll / 100 % 2 = 0 then { sensor := .duct, addr := d.ductAddr }
          else { sensor := .filter, addr := d.filterAddr }
        exec .fumePollStart s =
          .next { s with flk := { s.flk with poll := some poll, nextPoll := s.flk.nextPoll + 100 } }) ∧
    (s.amc.ticks < s.flk.nextPoll → exec .fumePollStart s = .next s) ∧
    (∀ bus, s.flk.poll = none → exec (.fumePollEnd bus) s = .next s) ∧
    ∀ p, s.flk.poll = some p →
      let ch := s.fumeChannel p.sensor
      let recorded := fun (t : State) (fault : Bool) =>
        (t.fumeChannel p.sensor).fault = fault ∧
          (t.exm.linkDuct = if p.sensor = .duct ∧ fault ≠ ch.fault then fault else s.exm.linkDuct) ∧
          (t.exm.linkFilter = if p.sensor = .filter ∧ fault ≠ ch.fault then fault else s.exm.linkFilter) ∧
          t.exm.grace = graceAfter s t ∧
          (¬ judged s → t.exm.sensorLink = s.exm.sensorLink ∧ t.exm.state = s.exm.state) ∧
          (judged s → fault ≠ ch.fault →
            t.exm.sensorLink = (t.exm.linkDuct || t.exm.linkFilter) ∧
              (t.exm.sensorLink = true → s.exm.sensorLink = false →
                t.exm.state = .lost ∧ t.present .extractSensorLink = true ∧
                  (s.present .extractSensorLink = false →
                    t.alarm .extractSensorLink =
                      recordedAs s .extractSensorLink .active (if p.sensor = .duct then 1 else 2) none)) ∧
              (t.exm.sensorLink = false → s.exm.sensorLink = true → t.present .extractSensorLink = false))
      (∀ b0 b1 b2, fumeCrc b0 b1 = b2 →
        ∃ t, exec (.fumePollEnd (.bytes b0 b1 b2)) s = .next t ∧ t.flk.poll = none ∧
          recorded t (ch.fault && decide (ch.goodRun < 2)) ∧
          (t.fumeChannel p.sensor).failRun = 0 ∧
          (t.fumeChannel p.sensor).goodRun = min 3 ((s.fumeChannel p.sensor).goodRun + 1) ∧
          t.exm.ductDp = (if p.sensor = .duct then some (encSignedHalf (b0 ++ b1)) else s.exm.ductDp) ∧
          t.exm.filterDp = (if p.sensor = .filter then some (encSignedHalf (b0 ++ b1)) else s.exm.filterDp)) ∧
      ∀ bus, (bus = .stuck ∨ bus = .nack ∨ ∃ b0 b1 b2, bus = .bytes b0 b1 b2 ∧ fumeCrc b0 b1 ≠ b2) →
        ∃ t, exec (.fumePollEnd bus) s = .next t ∧ t.flk.poll = none ∧
          recorded t (ch.fault || decide (4 ≤ ch.failRun)) ∧ (t.fumeChannel p.sensor).goodRun = 0 ∧
          (t.fumeChannel p.sensor).failRun = min 5 ((s.fumeChannel p.sensor).failRun + 1) ∧
          t.exm.ductDp = s.exm.ductDp ∧ t.exm.filterDp = s.exm.filterDp

/-! ### Valves, heaters, zones and pot -/

/-- The valve and heater periods. At a period's start the buffered load or duty, where there is one, becomes the active
one, and the output is on for the on-time of that duty; with an empty buffer the active one stays as it is, and with no
active load every valve is closed (R117); at the end of the on-time, where it is shorter than the period, the output
goes off. Where the load that becomes active is a spraying purge's first, the purge's spray timer counts from this tick
(R129); the current flux board and the rest of the part stand. That a row whose time has not come changes nothing is
the model's choice (assumption log, entry 4). -/
def Obligations.ValveAndHeaterPeriods : Prop :=
  ∀ s : State,
    (∀ p f l, s.fxc.period = some p → s.amc.profile = some f → p.start + p.len ≤ s.amc.ticks →
      s.fxc.buffered = some l →
      let openTime := l.duty * f.valvePeriod / 1000
      exec .valvePeriodStart s =
        .next { s with
                  fxc := { s.fxc with
                             active := some l, buffered := none,
                             period := some { start := s.amc.ticks, len := f.valvePeriod, openTime := openTime },
                             valves := if openTime = 0 then 0 else l.valves,
                             purge := s.fxc.purge.map fun q =>
                               if q.phase = .spray none then { q with phase := .spray (some s.amc.ticks) } else q } }) ∧
    (∀ p f, s.fxc.period = some p → s.amc.profile = some f → p.start + p.len ≤ s.amc.ticks → s.fxc.buffered = none →
      let openTime := (s.fxc.active.map fun l => l.duty * f.valvePeriod / 1000).getD 0
      exec .valvePeriodStart s =
        .next { s with
                  fxc := { s.fxc with
                             period := some { start := s.amc.ticks, len := f.valvePeriod, openTime := openTime },
                             valves := if openTime = 0 then 0 else (s.fxc.active.map (·.valves)).getD 0 } }) ∧
    (∀ p, s.fxc.period = some p → s.amc.ticks < p.start + p.len → exec .valvePeriodStart s = .next s) ∧
    (∀ p, s.fxc.period = some p → p.openTime < p.len → s.fxc.valves ≠ 0 →
      (p.start + p.openTime ≤ s.amc.ticks →
        exec .valveOpenTimeEnd s = .next { s with fxc := { s.fxc with valves := 0 } }) ∧
        (s.amc.ticks < p.start + p.openTime → exec .valveOpenTimeEnd s = .next s)) ∧
    (s.hpx.phase ≠ .initialising → s.phc.nextPeriod ≤ s.amc.ticks →
      ∃ t, exec .zoneHeaterPeriodStart s = .next t ∧ t.phc.periodStart = s.amc.ticks ∧
        t.phc.nextPeriod = s.phc.nextPeriod + 2000 ∧ t = { s with phc := t.phc } ∧
        ∀ z, t.zone z =
          { s.zone z with activeDuty := (s.zone z).bufferedDuty.getD (s.zone z).activeDuty, bufferedDuty := none,
                          heaterOn := decide (0 < (s.zone z).bufferedDuty.getD (s.zone z).activeDuty) }) ∧
    (∀ z, (s.zone z).heaterOn = true → (s.zone z).activeDuty < 1000 →
      (s.phc.periodStart + 2 * (s.zone z).activeDuty ≤ s.amc.ticks →
        exec (.zoneHeaterOnTimeEnd z) s =
          .next { s with phc := { s.phc with zones := s.phc.zones.set z { s.zone z with heaterOn := false } } }) ∧
        (s.amc.ticks < s.phc.periodStart + 2 * (s.zone z).activeDuty →
          exec (.zoneHeaterOnTimeEnd z) s = .next s)) ∧
    (s.hpx.phase ≠ .initialising → s.ptc.nextPotPeriod ≤ s.amc.ticks →
      let d := s.ptc.pot.bufferedDuty.getD s.ptc.pot.activeDuty
      exec .potHeaterPeriodStart s =
        .next { s with
                  ptc := { s.ptc with
                             pot := { s.ptc.pot with activeDuty := d, bufferedDuty := none, heaterOn := decide (0 < d) },
                             potPeriodStart := s.amc.ticks, nextPotPeriod := s.ptc.nextPotPeriod + 4000 } }) ∧
    (s.ptc.pot.heaterOn = true → s.ptc.pot.activeDuty < 1000 →
      (s.ptc.potPeriodStart + 4 * s.ptc.pot.activeDuty ≤ s.amc.ticks →
        exec .potHeaterOnTimeEnd s = .next { s with ptc := { s.ptc with pot := { s.ptc.pot with heaterOn := false } } }) ∧
        (s.amc.ticks < s.ptc.potPeriodStart + 4 * s.ptc.pot.activeDuty → exec .potHeaterOnTimeEnd s = .next s))

/-- The settle timers: a SETTLING zone, or the HEATING pot, whose timer has counted the settle time is READY with its
timer stopped; ZONE_DEVIATION and ZONE_SENSOR are judged on the zone's change (R137, R139), and with the pot READY
POT_NOT_READY is cleared (R152). The periodic claims: PYRO every 50 ms of a passage and ECHO every 250 ms, each placed
in the lowest free unit where no claim of its source stands, an ECHO with one pulse on ECHO_TRIG. And the feed
timeout: the feeder is BLOCKED and WIRE_FEED_TIMEOUT LATCHED (R162). That a feed timer which already stands above a
maximum feed time taken at a later START is kept, and so is due at once, is the model's choice (assumption log, entry
39), as is that a row whose time has not come changes nothing (entry 4). That an alarm's condition is present exactly
while its entry is ACTIVE or HELD is the model's reading (DEDUCED; assumption log, entry 15). -/
def Obligations.SettleFeedAndClaimTimers : Prop :=
  ∀ s : State,
    (∀ f z t0, s.amc.profile = some f → (s.zone z).state = .settling → (s.zone z).settle = some t0 →
      (t0 + 1000 * f.zoneSettle ≤ s.amc.ticks →
        ∃ t, exec (.zoneSettleExpiry z) s = .next t ∧
          t.phc = { s.phc with zones := s.phc.zones.set z { s.zone z with state := .ready, settle := none } } ∧
          deviationJudged s t ∧ zoneSensorJudged s t) ∧
        (s.amc.ticks < t0 + 1000 * f.zoneSettle → exec (.zoneSettleExpiry z) s = .next s)) ∧
    (∀ f t0, s.amc.profile = some f → s.ptc.pot.state = .heating → s.ptc.pot.settle = some t0 →
      (t0 + 1000 * f.potSettle ≤ s.amc.ticks →
        ∃ t, exec .potSettleExpiry s = .next t ∧ t.ptc.pot = { s.ptc.pot with state := .ready, settle := none } ∧
          t.phc = s.phc ∧
          t.alarm .potNotReady =
            { s.alarm .potNotReady with state := clearedState (s.alarm .potNotReady).state }) ∧
        (s.amc.ticks < t0 + 1000 * f.potSettle → exec .potSettleExpiry s = .next s)) ∧
    (∀ p u, s.phc.pyro = some p → p.nextClaim ≤ s.amc.ticks → s.standing .pyro = none → s.freeUnit = some u →
      ∃ t, exec .pyroClaimPlacement s = .next t ∧ t.phc.pyro = some { p with nextClaim := p.nextClaim + 50 } ∧
        ∃ k, t.unit u = some k ∧ k.claim = blockClaim .pyro .span .phc ∧ k.counting = false ∧ k.armed = s.amc.ticks) ∧
    (∀ d u, s.amc.inForce = some d → s.hpx.phase ≠ .initialising → s.ptc.nextEcho ≤ s.amc.ticks →
      s.standing .echo = none → s.freeUnit = some u →
      ∃ t, exec .echoClaimPlacement s = .next t ∧ t.ptc = { s.ptc with nextEcho := s.ptc.nextEcho + 250 } ∧
        t.cta.echoTrigs = s.cta.echoTrigs + 1 ∧
        ∃ k, t.unit u = some k ∧ k.claim = blockClaim .echo .span .ptc ∧ k.counting = false ∧ k.armed = s.amc.ticks) ∧
    ∀ d, s.amc.inForce = some d → s.ptc.feeder = .feeding → s.ptc.feed = none →
      (1000 * d.maxFeed ≤ s.ptc.feedTimer →
        ∃ t, exec .feedTimeout s = .next t ∧ t.ptc = { s.ptc with feeder := .blocked } ∧
          t.alarm .wireFeedTimeout =
            recordedAs s .wireFeedTimeout .latched (if s.ptc.distances = [] then 32767 else s.levelHalf) none) ∧
      (s.ptc.feedTimer < 1000 * d.maxFeed → exec .feedTimeout s = .next s)

/-- The pumps' timed events: at a ramp step each reference moves 50 rpm towards its command, and a pump whose command
and reference are 0 is STOPPED; a claiming pump without a result for more than 1,500 ms loses its measured speed and
its counts. An OK result of a pump's tachometer is its measured speed; two results of 0 in a row at a command of 100
rpm or more stall it with WAVE_PUMP_STALL, one above 0 ends the stall (R156), and a judged result within 5 % of the
command counts towards AT_SPEED, two in a row, while one outside makes it OFF_SPEED (R155). The speed updates the
minimum and maximum of every member of the pump's passage list (R157, R158); an OVERRANGE gives no speed and changes
neither pump nor list (R154). A result or a ramp step that changes a pump's state has WAVE_PUMP_SPEED present exactly
in PRODUCTION with a pump OFF_SPEED, and WAVE_PUMP_STALL with a pump STALLED, each raised with detail 1 for CHIP or 2
for MAIN (R155, R156). That a RAMPING pump with command and reference already 0 becomes STOPPED at its next ramp step
is the model's choice (assumption log, entry 18). That a row whose time has not come changes nothing is the model's
choice (assumption log, entry 4). That an alarm's condition is present exactly while its entry is ACTIVE or HELD is
the model's reading (DEDUCED; assumption log, entry 15). -/
def Obligations.PumpTimers : Prop :=
  ∀ s : State,
    (s.hpx.phase ≠ .initialising → s.ptc.nextRamp ≤ s.amc.ticks →
      ∃ t, exec .pumpRampStep s = .next t ∧ t.ptc.nextRamp = s.ptc.nextRamp + 100 ∧
        ∀ p, (t.pump p).reference = stepped 50 (s.pump p).reference (s.pump p).command ∧
          (t.pump p).command = (s.pump p).command ∧
          (t.pump p).state =
            (if (s.pump p).command = 0 ∧ stepped 50 (s.pump p).reference 0 = 0 then .stopped else (s.pump p).state) ∧
          ((t.pump p).state ≠ (s.pump p).state →
            (t.present .wavePumpSpeed = true ↔ pumpsOff t) ∧ (t.present .wavePumpStall = true ↔ pumpsStalled t))) ∧
    (s.amc.ticks < s.ptc.nextRamp → exec .pumpRampStep s = .next s) ∧
    (∀ (p : PumpId) (u : UnitNo) (c : CountUnit), s.unit u = some c → SoleClaim s u c.claim.source →
      c.claim = { blockClaim (pumpSource p) (.rate 500) .ptc with follower := c.claim.follower } → c.counting = true →
      c.openedAt + 500 ≤ s.amc.ticks →
      let r := s.pump p
      let rpm := c.count * 120 / s.pumpPpr p
      let inside := (max rpm r.command - min rpm r.command) * 100 ≤ 5 * r.command
      rpm < 65536 →
      let v : Half := BitVec.ofNat 16 rpm
      ∃ t, exec (.rateGateClose u) s = .next t ∧ (t.pump p).measured = some v ∧
        (t.pump p).lastResult = some s.amc.ticks ∧
        t.passages p = (s.passages p).map (fun m =>
          { m with minimum := some (match m.minimum with
                                    | none => v
                                    | some x => if rpm < x.toNat then v else x),
                   maximum := some (match m.maximum with
                                    | none => v
                                    | some x => if x.toNat < rpm then v else x) }) ∧
        ((t.pump p).state = r.state →
          t.alarm .wavePumpSpeed = s.alarm .wavePumpSpeed ∧ t.alarm .wavePumpStall = s.alarm .wavePumpStall) ∧
        ((t.pump p).state ≠ r.state →
          alarmJudged s t .wavePumpSpeed (pumpsOff t) (pumpNamed t p .offSpeed) ∧
            alarmJudged s t .wavePumpStall (pumpsStalled t) (pumpNamed t p .stalled)) ∧
        (c.count = 0 → 100 ≤ r.command → 1 ≤ r.zero → r.state ≠ .stopped → r.state ≠ .stalled →
          (t.pump p).state = .stalled ∧ (t.pump p).zero = 0 ∧ t.present .wavePumpStall = true) ∧
        (c.count = 0 → 100 ≤ r.command → r.zero = 0 → (t.pump p).zero = 1) ∧
        (0 < c.count → r.state = .stalled → (t.pump p).state = .ramping ∧ (t.pump p).inBand = 0) ∧
        ∀ a, 0 < c.count → r.state ≠ .stalled → 0 < r.command → r.reference = r.command → r.arrival = some a →
          a < c.openedAt →
          (inside → (t.pump p).inBand = r.inBand + 1 ∧
            (t.pump p).state =
              if 1 ≤ r.inBand ∧ (r.state = .ramping ∨ r.state = .offSpeed) then .atSpeed else r.state) ∧
          (¬ inside → (t.pump p).inBand = 0 ∧
            (t.pump p).state = if r.state = .ramping ∨ r.state = .atSpeed then .offSpeed else r.state)) ∧
    (∀ (p : PumpId) (u : UnitNo) (c : CountUnit), s.unit u = some c → SoleClaim s u c.claim.source →
      c.claim = { blockClaim (pumpSource p) (.rate 500) .ptc with follower := c.claim.follower } → c.counting = true →
      c.count = 1048575 → ∃ t, exec (.sourceEdge c.claim.source) s = .next t ∧ t.ptc = s.ptc) ∧
    ∀ (p : PumpId) (v : Half) (t0 : Nat), (s.pump p).measured = some v → (s.pump p).lastResult = some t0 →
      0 < (s.pump p).command ∨ (s.pump p).state ≠ .stopped →
      (t0 + 1500 < s.amc.ticks →
        ∃ t, exec (.pumpSpeedStale p) s = .next t ∧
          t.pump p = { s.pump p with measured := none, inBand := 0, zero := 0 } ∧ t = { s with ptc := t.ptc }) ∧
      (s.amc.ticks ≤ t0 + 1500 → exec (.pumpSpeedStale p) s = .next s)

/-! ### The extraction -/

/-- The extraction's timers. While the conditions are judged, a good poll starts the stopped confirmation timer of
each of its sensor's conditions whose test it meets, and stops the timer of one whose test it does not meet; those of
the other sensor stand, and a failed poll moves none (R170). A low OK fan result starts the stopped stall timer and
one at or above the minimum stops it, and with FAN_STALL present one at or above the minimum starts the stopped clear
timer and a low one stops it (R171). At the end of suppression the state is RUNNING, or LOST with SENSOR_LINK where a
link fault stands. A confirmed condition, a confirmed fan stall and its clearing change their condition and their
alarm, and the state is derived: LOST, DEGRADED or RUNNING; the grace timer starts where the state enters LOST, stops
where it leaves LOST, and stands otherwise (R172). The grace timer's expiry latches EXTRACT_FAILED and makes a working
mode SAFE. The end of run-on switches the fan off: every timer stopped, every condition absent, each of the six alarms
that was present cleared, and the standing TACH_FAN claim withdrawn without a result (R168; that none is written is
stated where TACH_FAN has one claim and EXM's is its RATE claim, R100): its unit goes to the head of the claim queue
or is free, a waiting one leaves the queue, and one that DIAG follows goes on as DIAG's (R105). That a row whose time
has not come changes nothing is the model's choice (assumption log, entry 4). -/
def Obligations.ExtractionTimers : Prop :=
  ∀ (s : State) (d : Description), s.amc.inForce = some d →
    let timers := fun (t : State) (c : PressureCond) => t.pressureCond c = s.pressureCond c
    (∀ p, s.flk.poll = some p →
      (∀ b0 b1 b2 c, fumeCrc b0 b1 = b2 →
        ∃ t, exec (.fumePollEnd (.bytes b0 b1 b2)) s = .next t ∧
          (¬ judged s ∨ condSensor c ≠ p.sensor → timers t c) ∧
          (judged s → condSensor c = p.sensor →
            let r := s.pressureCond c
            (confirms d c r.holds (b0 ++ b1).toInt →
              t.pressureCond c = { r with timer := some (r.timer.getD s.amc.ticks) }) ∧
              (¬ confirms d c r.holds (b0 ++ b1).toInt → t.pressureCond c = { r with timer := none }))) ∧
      ∀ bus c, (bus = .stuck ∨ bus = .nack ∨ ∃ b0 b1 b2, bus = .bytes b0 b1 b2 ∧ fumeCrc b0 b1 ≠ b2) →
        ∃ t, exec (.fumePollEnd bus) s = .next t ∧ timers t c) ∧
    (∀ (u : UnitNo) (c : CountUnit), s.unit u = some c → SoleClaim s u c.claim.source → c.counting = true →
      c.claim = { blockClaim .tachFan (.rate 1000) .exm with follower := c.claim.follower } →
      c.openedAt + 1000 ≤ s.amc.ticks → c.count * 60 / d.pprFan < 65536 →
      let low := c.count * 60 / d.pprFan < d.fanMin
      let started := fun t0 : Option Nat => some (t0.getD s.amc.ticks)
      ∃ t, exec (.rateGateClose u) s = .next t ∧ t.exm.fanStall = s.exm.fanStall ∧
        (¬ judged s → t.exm.stallTimer = s.exm.stallTimer ∧ t.exm.clearTimer = s.exm.clearTimer) ∧
        (judged s → s.exm.fanStall = false →
          t.exm.stallTimer = (if low then started s.exm.stallTimer else none) ∧ t.exm.clearTimer = s.exm.clearTimer) ∧
        (judged s → s.exm.fanStall = true →
          t.exm.clearTimer = (if low then none else started s.exm.clearTimer) ∧
            t.exm.stallTimer = s.exm.stallTimer)) ∧
    let derived := fun t : State =>
      judged s →
        t.exm.state =
          if t.exm.airflowLost.holds || t.exm.fanStall || t.exm.sensorLink then .lost
          else if t.exm.airflowLow.holds then .degraded else .running
    let derived := fun t : State => derived t ∧ t.exm.grace = graceAfter s t
    (∀ t0, s.exm.state = .starting → s.exm.suppression = some t0 → t0 + 1000 * d.suppression ≤ s.amc.ticks →
      (s.exm.linkDuct = false → s.exm.linkFilter = false →
        ∃ t, exec .extractSuppressionExpiry s = .next t ∧
          t.exm = { s.exm with suppression := none, state := .running }) ∧
      (s.exm.linkDuct = true ∨ s.exm.linkFilter = true →
        ∃ t, exec .extractSuppressionExpiry s = .next t ∧
          t.exm = { s.exm with suppression := none, state := .lost, sensorLink := true,
                               grace := .running s.amc.ticks } ∧
          t.present .extractSensorLink = true)) ∧
    (∀ c t0, (s.pressureCond c).timer = some t0 →
      (t0 + 2000 ≤ s.amc.ticks →
        ∃ t, exec (.extractConfirmationExpiry c) s = .next t ∧
          t.pressureCond c = { holds := !(s.pressureCond c).holds, timer := none } ∧
          t.present (condAlarm c) = !(s.pressureCond c).holds ∧ derived t) ∧
        (s.amc.ticks < t0 + 2000 → exec (.extractConfirmationExpiry c) s = .next s)) ∧
    (∀ t0, s.exm.fanStall = false → s.exm.stallTimer = some t0 → t0 + 3000 ≤ s.amc.ticks →
      ∃ t, exec .fanStallExpiry s = .next t ∧ t.exm.fanStall = true ∧ t.exm.stallTimer = none ∧
        t.present .extractFanStall = true ∧ derived t) ∧
    (∀ t0, s.exm.fanStall = true → s.exm.clearTimer = some t0 → t0 + 2000 ≤ s.amc.ticks →
      ∃ t, exec .fanClearExpiry s = .next t ∧ t.exm.fanStall = false ∧ t.exm.clearTimer = none ∧
        t.present .extractFanStall = false ∧ derived t) ∧
    (∀ t0, s.exm.state = .lost → s.exm.grace = .running t0 →
      (t0 + 1000 * d.grace ≤ s.amc.ticks →
        ∃ t, exec .graceExpiry s = .next t ∧ t.exm = { s.exm with grace := .expired } ∧
          t.alarm .extractFailed = recordedAs s .extractFailed .latched
            (if s.exm.airflowLost.holds then 1 else if s.exm.fanStall then 2 else 3) none ∧
          t.amc.mode = safeOrSame s.amc.mode) ∧
        (s.amc.ticks < t0 + 1000 * d.grace → exec .graceExpiry s = .next s)) ∧
    ∀ t0, s.exm.runOn = some t0 →
      (t0 + 1000 * d.runOn ≤ s.amc.ticks →
        ∃ t, exec .runOnExpiry s = .next t ∧
          t.exm = { s.exm with
                      fanOn := false, state := .off, runOn := none, suppression := none, grace := .stopped,
                      airflowLow := { holds := false, timer := none }, airflowLost := { holds := false, timer := none },
                      filterLoaded := { holds := false, timer := none },
                      filterClogged := { holds := false, timer := none }, fanStall := false, stallTimer := none,
                      clearTimer := none, sensorLink := false } ∧
          (∀ a ∈ [Alarm.extractAirflowLow, .extractAirflowLost, .extractFanStall, .extractSensorLink, .filterLoaded,
              .filterClogged], t.alarm a = { s.alarm a with state := clearedState (s.alarm a).state }) ∧
          (fanClaimed s → t.cta.results[srcNumber .tachFan] = s.cta.results[srcNumber .tachFan]) ∧
          (∀ u c, s.unit u = some c → c.claim.source = .tachFan → c.claim.claimant = .exm →
            SoleClaim s u .tachFan → c.claim.mode.isRate = true →
            (c.claim.follower = true →
              t.unit u = some { c with claim := { c.claim with claimant := .diag, follower := false, merged := true } }) ∧
            (c.claim.follower = false → s.spraying = false →
              (∀ b, s.fxc.board = some b → b.interrupted = true) →
              t.cta = match s.cta.queue with
                      | [] => { s.cta with units := s.cta.units.set u none }
                      | q :: rest =>
                        { s.cta with queue := rest, units := s.cta.units.set u (some (granted s q)),
                                     echoTrigs := if q.source = .echo ∧ q.mode = .span then s.cta.echoTrigs + 1
                                                  else s.cta.echoTrigs })) ∧
          ∀ k, s.unitOf .tachFan = none → s.standing .tachFan = some k → k.claimant = .exm →
            s.spraying = false → (∀ b, s.fxc.board = some b → b.interrupted = true) →
            (k.follower = false →
              t.cta = { s.cta with queue := s.cta.queue.filter fun q => q.source != .tachFan }) ∧
            (k.follower = true →
              t.cta = { s.cta with
                          queue := s.cta.queue.map fun q =>
                            if q.source = .tachFan then { q with claimant := .diag, follower := false, merged := true }
                            else q })) ∧
      (s.amc.ticks < t0 + 1000 * d.runOn → exec .runOnExpiry s = .next s)

/-! ### What every step keeps -/

/-- Exchange memory keeps its canonical form at every step. The canonical form is the model's own (assumption log,
entry 23). -/
def Obligations.MemoryStaysCanonical : Prop :=
  ∀ s t : State, Memory.wf s.xm = true → step s = .next t → Memory.wf t.xm = true

/-- Every step keeps the mode legal: DRAINING exactly while a FINISH is in flight (R89), and SAFE or CONFIG while a
SAFE-class alarm is out of QUIET (R93). -/
def Obligations.ModeStaysLegal : Prop :=
  ∀ s t : State, modeLegal s → step s = .next t → modeLegal t

/-- Every step leaves a pulse alarm in QUIET or LATCHED, never in ACTIVE or HELD (R82). -/
def Obligations.PulseAlarmsStayQuietOrLatched : Prop :=
  ∀ s t : State, pulsesLegal s → step s = .next t → pulsesLegal t

/-- Every step keeps the drive at reference and target 0 while the conveyor-stop signal is present (R60, R62, R86). -/
def Obligations.StopHoldsTheConveyor : Prop :=
  ∀ s t : State, stopHolds s → step s = .next t → stopHolds t

/-- Every step keeps two things. The requests in flight stand in TAKEN cells of their own codes, ruled on by their
owners, no two cells are TAKEN with the same long code, and no purge stands beside a changeover (R16, R27, R129). And
the outputs stay permitted: fluxing and spraying go on only while permitted, loads and open valves belong to one of
the two (R116, R120, R122, R129, R130), and outside STANDBY, PRODUCTION and DRAINING every zone and the pot are OFF
with their heaters off (R133, R134, R148, R150). The command taken is a well-formed one. -/
def Obligations.RequestsAndOutputsStayLegal : Prop :=
  ∀ s t : State, (∀ c, s.pending.head? = some c → Instr.wf c = true) → step s = .next t →
    (requestsLegal s → requestsLegal t) ∧ (requestsLegal s → outputsLegal s → outputsLegal t)

/-- Every step keeps the arrival list, the pin counts and the conveyor map legal: the list names exactly the ANNOUNCED
dockets, each once (R34, R41), each recipe's pin count is the number of dockets ANNOUNCED or ON_LINE that name it
(R42), and the map holds at most 12 entries, whose dockets are ON_LINE and distinct (R63). The command taken is a
well-formed one. -/
def Obligations.ArrivalListPinsAndMapStayLegal : Prop :=
  ∀ s t : State, (∀ c, s.pending.head? = some c → Instr.wf c = true) → trackingLegal s → step s = .next t →
    trackingLegal t

/-- Host-owned bytes are not written by the part: no command but a power-on and a plain host write changes the code,
tag and arguments of a cell, the machine description, a line profile, the host part of a recipe or a docket, or the
host area, or the parity stored with them. -/
def Obligations.HostOwnedBytesStand : Prop :=
  ∀ (c : Instr) (s t : State) (a : Nat), Instr.wf c = true → c ≠ .powerOn → (∀ x en d, c ≠ .hostWrite x en d) →
    hostOwned a → exec c s = .next t → t.byteAt a = s.byteAt a ∧ t.xmBad a = s.xmBad a
end

