-- ==== Sys2Proof/Laws/State.lean ====
section
/-! SUPPORT. What each shared operation leaves as it was, field by field: frames as named relations between two states, and one simp
lemma for each operation that says which of them it meets. -/

namespace Sys2Proof.Machine

/-! ### Frames -/

/-- HPX stands but for ATTN. -/
@[simp] abbrev SameHpx (s t : State) : Prop :=
  t.hpx.phase = s.hpx.phase ∧ t.hpx.answer = s.hpx.answer ∧ t.hpx.slot = s.hpx.slot ∧ t.hpx.refusal = s.hpx.refusal
  ∧ t.hpx.parityAddr = s.hpx.parityAddr ∧ t.hpx.parityInvert = s.hpx.parityInvert ∧ t.hpx.attnMask = s.hpx.attnMask
  ∧ t.hpx.handed = s.hpx.handed

/-- HPX stands but for ATTN and PARITY_ADDR. -/
@[simp] abbrev SameHpxButParity (s t : State) : Prop :=
  t.hpx.phase = s.hpx.phase ∧ t.hpx.answer = s.hpx.answer ∧ t.hpx.slot = s.hpx.slot ∧ t.hpx.refusal = s.hpx.refusal
  ∧ t.hpx.parityInvert = s.hpx.parityInvert ∧ t.hpx.attnMask = s.hpx.attnMask ∧ t.hpx.handed = s.hpx.handed

/-- AMC stands but for the alarm table. -/
@[simp] abbrev SameAmc (s t : State) : Prop :=
  t.amc.ticks = s.amc.ticks ∧ t.amc.mode = s.amc.mode ∧ t.amc.activeProfile = s.amc.activeProfile ∧
  t.amc.inForce = s.amc.inForce ∧ t.amc.profile = s.amc.profile ∧ t.amc.chainOpen = s.amc.chainOpen ∧
  t.amc.chainCount = s.amc.chainCount ∧ t.amc.finish = s.amc.finish ∧ t.amc.changeover = s.amc.changeover

/-- AMC stands but for the mode, FINISH, the changeover and the alarm table. -/
@[simp] abbrev SameAmcButMode (s t : State) : Prop :=
  t.amc.ticks = s.amc.ticks ∧ t.amc.activeProfile = s.amc.activeProfile ∧ t.amc.inForce = s.amc.inForce ∧
  t.amc.profile = s.amc.profile ∧ t.amc.chainOpen = s.amc.chainOpen ∧ t.amc.chainCount = s.amc.chainCount

/-- AMC keeps the clock, the description in force and the chain. -/
@[simp] abbrev SameAmcButProfile (s t : State) : Prop :=
  t.amc.ticks = s.amc.ticks ∧ t.amc.inForce = s.amc.inForce ∧ t.amc.chainOpen = s.amc.chainOpen ∧
  t.amc.chainCount = s.amc.chainCount

/-- CVT stands but for the drive and the downstream timer. -/
@[simp] abbrev SameCvtButDrive (s t : State) : Prop :=
  t.cvt.travel = s.cvt.travel ∧ t.cvt.residue = s.cvt.residue ∧ t.cvt.mmTicksDue = s.cvt.mmTicksDue ∧
  t.cvt.thisInterval = s.cvt.thisInterval ∧ t.cvt.prevInterval = s.cvt.prevInterval ∧
  t.cvt.measuredSpeed = s.cvt.measuredSpeed ∧ t.cvt.map = s.cvt.map ∧ t.cvt.entryEye = s.cvt.entryEye ∧
  t.cvt.exitEye = s.cvt.exitEye ∧ t.cvt.entryTracked = s.cvt.entryTracked ∧ t.cvt.exitEdge = s.cvt.exitEdge ∧
  t.cvt.upOffer = s.cvt.upOffer ∧ t.cvt.dnAccept = s.cvt.dnAccept ∧ t.cvt.nextSpeed = s.cvt.nextSpeed ∧
  t.cvt.nextRamp = s.cvt.nextRamp

/-- CVT keeps the travel, the speed measurement, the eyes and the neighbours. -/
@[simp] abbrev SameBelt (s t : State) : Prop :=
  t.cvt.travel = s.cvt.travel ∧ t.cvt.residue = s.cvt.residue ∧ t.cvt.mmTicksDue = s.cvt.mmTicksDue ∧
  t.cvt.thisInterval = s.cvt.thisInterval ∧ t.cvt.prevInterval = s.cvt.prevInterval ∧
  t.cvt.measuredSpeed = s.cvt.measuredSpeed ∧ t.cvt.entryEye = s.cvt.entryEye ∧ t.cvt.exitEye = s.cvt.exitEye ∧
  t.cvt.upOffer = s.cvt.upOffer ∧ t.cvt.dnAccept = s.cvt.dnAccept ∧ t.cvt.nextSpeed = s.cvt.nextSpeed ∧
  t.cvt.nextRamp = s.cvt.nextRamp

/-- FXC keeps its period and its switches. -/
@[simp] abbrev SameFluxInputs (s t : State) : Prop :=
  t.fxc.period = s.fxc.period ∧ t.fxc.pressureOk = s.fxc.pressureOk ∧ t.fxc.pressureCount = s.fxc.pressureCount ∧
  t.fxc.tankHigh = s.fxc.tankHigh ∧ t.fxc.tankCount = s.fxc.tankCount

/-- PTC keeps its passages, its level and its schedules. -/
@[simp] abbrev SamePtcButPumps (s t : State) : Prop :=
  t.ptc.chipList = s.ptc.chipList ∧ t.ptc.mainList = s.ptc.mainList ∧ t.ptc.distances = s.ptc.distances ∧
  t.ptc.echoFailures = s.ptc.echoFailures ∧ t.ptc.echoLost = s.ptc.echoLost ∧ t.ptc.levelState = s.ptc.levelState ∧
  t.ptc.workingRef = s.ptc.workingRef ∧ t.ptc.potPeriodStart = s.ptc.potPeriodStart ∧
  t.ptc.nextPotPeriod = s.ptc.nextPotPeriod ∧ t.ptc.nextRamp = s.ptc.nextRamp ∧ t.ptc.nextEcho = s.ptc.nextEcho

/-- PTC keeps its level and its schedules. -/
@[simp] abbrev SameLevel (s t : State) : Prop :=
  t.ptc.distances = s.ptc.distances ∧ t.ptc.echoFailures = s.ptc.echoFailures ∧ t.ptc.echoLost = s.ptc.echoLost ∧
  t.ptc.levelState = s.ptc.levelState ∧ t.ptc.workingRef = s.ptc.workingRef ∧
  t.ptc.potPeriodStart = s.ptc.potPeriodStart ∧ t.ptc.nextPotPeriod = s.ptc.nextPotPeriod ∧
  t.ptc.nextRamp = s.ptc.nextRamp ∧ t.ptc.nextEcho = s.ptc.nextEcho

/-- Only exchange memory may differ. -/
@[simp] abbrev OnlyRecords (s t : State) : Prop :=
  t.hpx = s.hpx ∧ t.dkc = s.dkc ∧ t.cvt = s.cvt ∧ t.amc = s.amc ∧ t.cta = s.cta ∧ t.tlk = s.tlk ∧ t.flk = s.flk ∧
  t.fxc = s.fxc ∧ t.phc = s.phc ∧ t.ptc = s.ptc ∧ t.exm = s.exm ∧ t.free = s.free ∧ t.pending = s.pending

/-- Only exchange memory and ATTN may differ. -/
@[simp] abbrev OnlyCells (s t : State) : Prop :=
  SameHpx s t ∧ t.dkc = s.dkc ∧ t.cvt = s.cvt ∧ t.amc = s.amc ∧ t.cta = s.cta ∧ t.tlk = s.tlk ∧ t.flk = s.flk ∧
  t.fxc = s.fxc ∧ t.phc = s.phc ∧ t.ptc = s.ptc ∧ t.exm = s.exm ∧ t.free = s.free ∧ t.pending = s.pending

/-- Only HPX may differ. -/
@[simp] abbrev OnlyHpx (s t : State) : Prop :=
  t.dkc = s.dkc ∧ t.cvt = s.cvt ∧ t.amc = s.amc ∧ t.cta = s.cta ∧ t.tlk = s.tlk ∧ t.flk = s.flk ∧ t.fxc = s.fxc ∧
  t.phc = s.phc ∧ t.ptc = s.ptc ∧ t.exm = s.exm ∧ t.xm = s.xm ∧ t.free = s.free ∧ t.pending = s.pending

/-- Only the alarm table, ATTN and exchange memory may differ. -/
@[simp] abbrev OnlyAlarms (s t : State) : Prop :=
  SameHpx s t ∧ t.dkc = s.dkc ∧ t.cvt = s.cvt ∧ SameAmc s t ∧ t.cta = s.cta ∧ t.tlk = s.tlk ∧ t.flk = s.flk ∧
  t.fxc = s.fxc ∧ t.phc = s.phc ∧ t.ptc = s.ptc ∧ t.exm = s.exm ∧ t.free = s.free ∧ t.pending = s.pending

/-- Only CTA, ATTN and exchange memory may differ. -/
@[simp] abbrev OnlyClaims (s t : State) : Prop :=
  SameHpx s t ∧ t.dkc = s.dkc ∧ t.cvt = s.cvt ∧ t.amc = s.amc ∧ t.tlk = s.tlk ∧ t.flk = s.flk ∧ t.fxc = s.fxc ∧
  t.phc = s.phc ∧ t.ptc = s.ptc ∧ t.exm = s.exm ∧ t.free = s.free ∧ t.pending = s.pending

/-- Only FXC's work, CTA, the alarm table, ATTN and exchange memory may differ. -/
@[simp] abbrev OnlyFlux (s t : State) : Prop :=
  SameHpx s t ∧ t.dkc = s.dkc ∧ t.cvt = s.cvt ∧ SameAmc s t ∧ t.tlk = s.tlk ∧ t.flk = s.flk ∧ SameFluxInputs s t ∧
  t.phc = s.phc ∧ t.ptc = s.ptc ∧ t.exm = s.exm ∧ t.free = s.free ∧ t.pending = s.pending

/-- Only CTA may differ. -/
@[simp] abbrev OnlyCta (s t : State) : Prop :=
  t.hpx = s.hpx ∧ t.dkc = s.dkc ∧ t.cvt = s.cvt ∧ t.amc = s.amc ∧ t.tlk = s.tlk ∧ t.flk = s.flk ∧ t.fxc = s.fxc ∧
  t.phc = s.phc ∧ t.ptc = s.ptc ∧ t.exm = s.exm ∧ t.xm = s.xm ∧ t.free = s.free ∧ t.pending = s.pending

/-- Only FXC may differ. -/
@[simp] abbrev OnlyFxc (s t : State) : Prop :=
  t.hpx = s.hpx ∧ t.dkc = s.dkc ∧ t.cvt = s.cvt ∧ t.amc = s.amc ∧ t.cta = s.cta ∧ t.tlk = s.tlk ∧ t.flk = s.flk ∧
  t.phc = s.phc ∧ t.ptc = s.ptc ∧ t.exm = s.exm ∧ t.xm = s.xm ∧ t.free = s.free ∧ t.pending = s.pending

/-- Only the zones and exchange memory may differ. -/
@[simp] abbrev OnlyZones (s t : State) : Prop :=
  t.hpx = s.hpx ∧ t.dkc = s.dkc ∧ t.cvt = s.cvt ∧ t.amc = s.amc ∧ t.cta = s.cta ∧ t.tlk = s.tlk ∧ t.flk = s.flk ∧
  t.fxc = s.fxc ∧ t.phc.periodStart = s.phc.periodStart ∧ t.phc.nextPeriod = s.phc.nextPeriod ∧
  t.phc.pyro = s.phc.pyro ∧ t.ptc = s.ptc ∧ t.exm = s.exm ∧ t.free = s.free ∧ t.pending = s.pending

/-- Only PTC may differ. -/
@[simp] abbrev OnlyPtc (s t : State) : Prop :=
  t.hpx = s.hpx ∧ t.dkc = s.dkc ∧ t.cvt = s.cvt ∧ t.amc = s.amc ∧ t.cta = s.cta ∧ t.tlk = s.tlk ∧ t.flk = s.flk ∧
  t.fxc = s.fxc ∧ t.phc = s.phc ∧ t.exm = s.exm ∧ t.xm = s.xm ∧ t.free = s.free ∧ t.pending = s.pending

/-- Only EXM may differ. -/
@[simp] abbrev OnlyExm (s t : State) : Prop :=
  t.hpx = s.hpx ∧ t.dkc = s.dkc ∧ t.cvt = s.cvt ∧ t.amc = s.amc ∧ t.cta = s.cta ∧ t.tlk = s.tlk ∧ t.flk = s.flk ∧
  t.fxc = s.fxc ∧ t.phc = s.phc ∧ t.ptc = s.ptc ∧ t.xm = s.xm ∧ t.free = s.free ∧ t.pending = s.pending

/-- Only CVT may differ. -/
@[simp] abbrev OnlyCvt (s t : State) : Prop :=
  t.hpx = s.hpx ∧ t.dkc = s.dkc ∧ t.amc = s.amc ∧ t.cta = s.cta ∧ t.tlk = s.tlk ∧ t.flk = s.flk ∧ t.fxc = s.fxc ∧
  t.phc = s.phc ∧ t.ptc = s.ptc ∧ t.exm = s.exm ∧ t.xm = s.xm ∧ t.free = s.free ∧ t.pending = s.pending

/-- Only DKC may differ. -/
@[simp] abbrev OnlyDkc (s t : State) : Prop :=
  t.hpx = s.hpx ∧ t.cvt = s.cvt ∧ t.amc = s.amc ∧ t.cta = s.cta ∧ t.tlk = s.tlk ∧ t.flk = s.flk ∧ t.fxc = s.fxc ∧
  t.phc = s.phc ∧ t.ptc = s.ptc ∧ t.exm = s.exm ∧ t.xm = s.xm ∧ t.free = s.free ∧ t.pending = s.pending

/-- What a change at the pot may move. -/
@[simp] abbrev OnlyPot (s t : State) : Prop :=
  SameHpx s t ∧ t.dkc = s.dkc ∧ t.cvt = s.cvt ∧ SameAmc s t ∧ t.tlk = s.tlk ∧ t.flk = s.flk ∧ SameFluxInputs s t ∧
  t.phc = s.phc ∧ SamePtcButPumps s t ∧ t.exm = s.exm ∧ t.pending = s.pending

/-- What a change of mode may move. -/
@[simp] abbrev OnlyModeActs (s t : State) : Prop :=
  SameHpx s t ∧ t.dkc = s.dkc ∧ SameCvtButDrive s t ∧ SameAmcButMode s t ∧ t.tlk = s.tlk ∧ t.flk = s.flk ∧
  SameFluxInputs s t ∧ t.phc.periodStart = s.phc.periodStart ∧ t.phc.nextPeriod = s.phc.nextPeriod ∧
  t.phc.pyro = s.phc.pyro ∧ SamePtcButPumps s t ∧ t.exm = s.exm ∧ t.pending = s.pending

/-- What a jam or a discard may move. -/
@[simp] abbrev OnlyJamActs (s t : State) : Prop :=
  SameHpx s t ∧ t.dkc.arrival = s.dkc.arrival ∧ t.dkc.buffer = s.dkc.buffer ∧ t.dkc.bad = s.dkc.bad ∧
  t.dkc.rxHeld = s.dkc.rxHeld ∧ t.dkc.rxPast = s.dkc.rxPast ∧ SameBelt s t ∧ SameAmcButProfile s t ∧ t.tlk = s.tlk ∧ t.flk = s.flk ∧
  SameFluxInputs s t ∧ t.phc.periodStart = s.phc.periodStart ∧ t.phc.nextPeriod = s.phc.nextPeriod ∧ SameLevel s t ∧
  t.exm = s.exm ∧ t.pending = s.pending

/-- What a judgement of a recipe window may move. -/
@[simp] abbrev OnlyJudged (s t : State) : Prop :=
  SameHpxButParity s t ∧ t.dkc = s.dkc ∧ t.cvt = s.cvt ∧ SameAmc s t ∧ t.tlk = s.tlk ∧ t.flk = s.flk ∧
  t.phc.periodStart = s.phc.periodStart ∧ t.phc.nextPeriod = s.phc.nextPeriod ∧ t.exm = s.exm ∧ t.free = s.free ∧
  t.pending = s.pending

/-! ### Loops -/

theorem forEach_cons {α : Type} (a : α) (l : List α) (f : α → State → State) (s : State) :
    forEach (a :: l) f s = forEach l f (f a s) := rfl

/-- A loop keeps what its body keeps. -/
theorem forEach_keeps {α β : Type} (P : State → β) (l : List α) (f : α → State → State)
    (h : ∀ a t, P (f a t) = P t) (s : State) : P (forEach l f s) = P s := by
  induction l generalizing s with
  | nil => rfl
  | cons a l ih => rw [forEach_cons, ih, h]

/-- A loop keeps a property that its body keeps. -/
theorem forEach_induct {α : Type} (P : State → Prop) (l : List α) (f : α → State → State)
    (h : ∀ a t, P t → P (f a t)) (s : State) (h0 : P s) : P (forEach l f s) := by
  induction l generalizing s with
  | nil => exact h0
  | cons a l ih => exact ih _ (h a s h0)

/-- A loop keeps every field that its body keeps. -/
@[simp] theorem forEach_fields {α : Type} (l : List α) (f : α → State → State) (s : State) :
    ((∀ a t, (f a t).hpx = t.hpx) → (forEach l f s).hpx = s.hpx) ∧
    ((∀ a t, (f a t).hpx.phase = t.hpx.phase) → (forEach l f s).hpx.phase = s.hpx.phase) ∧
    ((∀ a t, (f a t).hpx.answer = t.hpx.answer) → (forEach l f s).hpx.answer = s.hpx.answer) ∧
    ((∀ a t, (f a t).hpx.slot = t.hpx.slot) → (forEach l f s).hpx.slot = s.hpx.slot) ∧
    ((∀ a t, (f a t).hpx.refusal = t.hpx.refusal) → (forEach l f s).hpx.refusal = s.hpx.refusal) ∧
    ((∀ a t, (f a t).hpx.parityAddr = t.hpx.parityAddr) → (forEach l f s).hpx.parityAddr = s.hpx.parityAddr) ∧
    ((∀ a t, (f a t).hpx.parityInvert = t.hpx.parityInvert) → (forEach l f s).hpx.parityInvert = s.hpx.parityInvert)
    ∧ ((∀ a t, (f a t).hpx.attn = t.hpx.attn) → (forEach l f s).hpx.attn = s.hpx.attn) ∧
    ((∀ a t, (f a t).hpx.attnMask = t.hpx.attnMask) → (forEach l f s).hpx.attnMask = s.hpx.attnMask) ∧
    ((∀ a t, (f a t).hpx.handed = t.hpx.handed) → (forEach l f s).hpx.handed = s.hpx.handed) ∧
    ((∀ a t, (f a t).dkc = t.dkc) → (forEach l f s).dkc = s.dkc) ∧
    ((∀ a t, (f a t).dkc.arrival = t.dkc.arrival) → (forEach l f s).dkc.arrival = s.dkc.arrival) ∧
    ((∀ a t, (f a t).dkc.unannounced = t.dkc.unannounced) → (forEach l f s).dkc.unannounced = s.dkc.unannounced) ∧
    ((∀ a t, (f a t).dkc.window = t.dkc.window) → (forEach l f s).dkc.window = s.dkc.window) ∧
    ((∀ a t, (f a t).dkc.buffer = t.dkc.buffer) → (forEach l f s).dkc.buffer = s.dkc.buffer) ∧
    ((∀ a t, (f a t).dkc.bad = t.dkc.bad) → (forEach l f s).dkc.bad = s.dkc.bad) ∧
    ((∀ a t, (f a t).dkc.rxHeld = t.dkc.rxHeld) → (forEach l f s).dkc.rxHeld = s.dkc.rxHeld) ∧
    ((∀ a t, (f a t).dkc.rxPast = t.dkc.rxPast) → (forEach l f s).dkc.rxPast = s.dkc.rxPast) ∧
    ((∀ a t, (f a t).cvt = t.cvt) → (forEach l f s).cvt = s.cvt) ∧
    ((∀ a t, (f a t).cvt.travel = t.cvt.travel) → (forEach l f s).cvt.travel = s.cvt.travel) ∧
    ((∀ a t, (f a t).cvt.residue = t.cvt.residue) → (forEach l f s).cvt.residue = s.cvt.residue) ∧
    ((∀ a t, (f a t).cvt.mmTicksDue = t.cvt.mmTicksDue) → (forEach l f s).cvt.mmTicksDue = s.cvt.mmTicksDue) ∧
    ((∀ a t, (f a t).cvt.thisInterval = t.cvt.thisInterval) → (forEach l f s).cvt.thisInterval = s.cvt.thisInterval)
    ∧
    ((∀ a t, (f a t).cvt.prevInterval = t.cvt.prevInterval) → (forEach l f s).cvt.prevInterval = s.cvt.prevInterval)
    ∧
    ((∀ a t, (f a t).cvt.measuredSpeed = t.cvt.measuredSpeed) → (forEach l f s).cvt.measuredSpeed = s.cvt.measuredSpeed)
    ∧ ((∀ a t, (f a t).cvt.drive = t.cvt.drive) → (forEach l f s).cvt.drive = s.cvt.drive) ∧
    ((∀ a t, (f a t).cvt.reference = t.cvt.reference) → (forEach l f s).cvt.reference = s.cvt.reference) ∧
    ((∀ a t, (f a t).cvt.target = t.cvt.target) → (forEach l f s).cvt.target = s.cvt.target) ∧
    ((∀ a t, (f a t).cvt.stall = t.cvt.stall) → (forEach l f s).cvt.stall = s.cvt.stall) ∧
    ((∀ a t, (f a t).cvt.map = t.cvt.map) → (forEach l f s).cvt.map = s.cvt.map) ∧
    ((∀ a t, (f a t).cvt.entryEye = t.cvt.entryEye) → (forEach l f s).cvt.entryEye = s.cvt.entryEye) ∧
    ((∀ a t, (f a t).cvt.exitEye = t.cvt.exitEye) → (forEach l f s).cvt.exitEye = s.cvt.exitEye) ∧
    ((∀ a t, (f a t).cvt.entryTracked = t.cvt.entryTracked) → (forEach l f s).cvt.entryTracked = s.cvt.entryTracked)
    ∧ ((∀ a t, (f a t).cvt.exitEdge = t.cvt.exitEdge) → (forEach l f s).cvt.exitEdge = s.cvt.exitEdge) ∧
    ((∀ a t, (f a t).cvt.upOffer = t.cvt.upOffer) → (forEach l f s).cvt.upOffer = s.cvt.upOffer) ∧
    ((∀ a t, (f a t).cvt.dnAccept = t.cvt.dnAccept) → (forEach l f s).cvt.dnAccept = s.cvt.dnAccept) ∧
    ((∀ a t, (f a t).cvt.downstream = t.cvt.downstream) → (forEach l f s).cvt.downstream = s.cvt.downstream) ∧
    ((∀ a t, (f a t).cvt.nextSpeed = t.cvt.nextSpeed) → (forEach l f s).cvt.nextSpeed = s.cvt.nextSpeed) ∧
    ((∀ a t, (f a t).cvt.nextRamp = t.cvt.nextRamp) → (forEach l f s).cvt.nextRamp = s.cvt.nextRamp) ∧
    ((∀ a t, (f a t).amc = t.amc) → (forEach l f s).amc = s.amc) ∧
    ((∀ a t, (f a t).amc.ticks = t.amc.ticks) → (forEach l f s).amc.ticks = s.amc.ticks) ∧
    ((∀ a t, (f a t).amc.mode = t.amc.mode) → (forEach l f s).amc.mode = s.amc.mode) ∧
    ((∀ a t, (f a t).amc.activeProfile = t.amc.activeProfile) → (forEach l f s).amc.activeProfile = s.amc.activeProfile)
    ∧ ((∀ a t, (f a t).amc.inForce = t.amc.inForce) → (forEach l f s).amc.inForce = s.amc.inForce) ∧
    ((∀ a t, (f a t).amc.profile = t.amc.profile) → (forEach l f s).amc.profile = s.amc.profile) ∧
    ((∀ a t, (f a t).amc.alarms = t.amc.alarms) → (forEach l f s).amc.alarms = s.amc.alarms) ∧
    ((∀ a t, (f a t).amc.chainOpen = t.amc.chainOpen) → (forEach l f s).amc.chainOpen = s.amc.chainOpen) ∧
    ((∀ a t, (f a t).amc.chainCount = t.amc.chainCount) → (forEach l f s).amc.chainCount = s.amc.chainCount) ∧
    ((∀ a t, (f a t).amc.finish = t.amc.finish) → (forEach l f s).amc.finish = s.amc.finish) ∧
    ((∀ a t, (f a t).amc.changeover = t.amc.changeover) → (forEach l f s).amc.changeover = s.amc.changeover) ∧
    ((∀ a t, (f a t).cta = t.cta) → (forEach l f s).cta = s.cta) ∧
    ((∀ a t, (f a t).cta.units = t.cta.units) → (forEach l f s).cta.units = s.cta.units) ∧
    ((∀ a t, (f a t).cta.queue = t.cta.queue) → (forEach l f s).cta.queue = s.cta.queue) ∧
    ((∀ a t, (f a t).cta.results = t.cta.results) → (forEach l f s).cta.results = s.cta.results) ∧
    ((∀ a t, (f a t).cta.measure = t.cta.measure) → (forEach l f s).cta.measure = s.cta.measure) ∧
    ((∀ a t, (f a t).cta.echoTrigs = t.cta.echoTrigs) → (forEach l f s).cta.echoTrigs = s.cta.echoTrigs) ∧
    ((∀ a t, (f a t).tlk = t.tlk) → (forEach l f s).tlk = s.tlk) ∧
    ((∀ a t, (f a t).tlk.channels = t.tlk.channels) → (forEach l f s).tlk.channels = s.tlk.channels) ∧
    ((∀ a t, (f a t).tlk.nextFrame = t.tlk.nextFrame) → (forEach l f s).tlk.nextFrame = s.tlk.nextFrame) ∧
    ((∀ a t, (f a t).tlk.nextRound = t.tlk.nextRound) → (forEach l f s).tlk.nextRound = s.tlk.nextRound) ∧
    ((∀ a t, (f a t).flk = t.flk) → (forEach l f s).flk = s.flk) ∧
    ((∀ a t, (f a t).flk.duct = t.flk.duct) → (forEach l f s).flk.duct = s.flk.duct) ∧
    ((∀ a t, (f a t).flk.filter = t.flk.filter) → (forEach l f s).flk.filter = s.flk.filter) ∧
    ((∀ a t, (f a t).flk.poll = t.flk.poll) → (forEach l f s).flk.poll = s.flk.poll) ∧
    ((∀ a t, (f a t).flk.nextPoll = t.flk.nextPoll) → (forEach l f s).flk.nextPoll = s.flk.nextPoll) ∧
    ((∀ a t, (f a t).fxc = t.fxc) → (forEach l f s).fxc = s.fxc) ∧
    ((∀ a t, (f a t).fxc.period = t.fxc.period) → (forEach l f s).fxc.period = s.fxc.period) ∧
    ((∀ a t, (f a t).fxc.active = t.fxc.active) → (forEach l f s).fxc.active = s.fxc.active) ∧
    ((∀ a t, (f a t).fxc.buffered = t.fxc.buffered) → (forEach l f s).fxc.buffered = s.fxc.buffered) ∧
    ((∀ a t, (f a t).fxc.valves = t.fxc.valves) → (forEach l f s).fxc.valves = s.fxc.valves) ∧
    ((∀ a t, (f a t).fxc.closedPart = t.fxc.closedPart) → (forEach l f s).fxc.closedPart = s.fxc.closedPart) ∧
    ((∀ a t, (f a t).fxc.board = t.fxc.board) → (forEach l f s).fxc.board = s.fxc.board) ∧
    ((∀ a t, (f a t).fxc.purge = t.fxc.purge) → (forEach l f s).fxc.purge = s.fxc.purge) ∧
    ((∀ a t, (f a t).fxc.pressureOk = t.fxc.pressureOk) → (forEach l f s).fxc.pressureOk = s.fxc.pressureOk) ∧
    ((∀ a t, (f a t).fxc.pressureCount = t.fxc.pressureCount) → (forEach l f s).fxc.pressureCount = s.fxc.pressureCount)
    ∧ ((∀ a t, (f a t).fxc.tankHigh = t.fxc.tankHigh) → (forEach l f s).fxc.tankHigh = s.fxc.tankHigh) ∧
    ((∀ a t, (f a t).fxc.tankCount = t.fxc.tankCount) → (forEach l f s).fxc.tankCount = s.fxc.tankCount) ∧
    ((∀ a t, (f a t).phc = t.phc) → (forEach l f s).phc = s.phc) ∧
    ((∀ a t, (f a t).phc.zones = t.phc.zones) → (forEach l f s).phc.zones = s.phc.zones) ∧
    ((∀ a t, (f a t).phc.periodStart = t.phc.periodStart) → (forEach l f s).phc.periodStart = s.phc.periodStart) ∧
    ((∀ a t, (f a t).phc.nextPeriod = t.phc.nextPeriod) → (forEach l f s).phc.nextPeriod = s.phc.nextPeriod) ∧
    ((∀ a t, (f a t).phc.pyro = t.phc.pyro) → (forEach l f s).phc.pyro = s.phc.pyro) ∧
    ((∀ a t, (f a t).ptc = t.ptc) → (forEach l f s).ptc = s.ptc) ∧
    ((∀ a t, (f a t).ptc.pot = t.ptc.pot) → (forEach l f s).ptc.pot = s.ptc.pot) ∧
    ((∀ a t, (f a t).ptc.chip = t.ptc.chip) → (forEach l f s).ptc.chip = s.ptc.chip) ∧
    ((∀ a t, (f a t).ptc.main = t.ptc.main) → (forEach l f s).ptc.main = s.ptc.main) ∧
    ((∀ a t, (f a t).ptc.chipList = t.ptc.chipList) → (forEach l f s).ptc.chipList = s.ptc.chipList) ∧
    ((∀ a t, (f a t).ptc.mainList = t.ptc.mainList) → (forEach l f s).ptc.mainList = s.ptc.mainList) ∧
    ((∀ a t, (f a t).ptc.mainLeftRamping = t.ptc.mainLeftRamping) → (forEach l f s).ptc.mainLeftRamping = s.ptc.mainLeftRamping)
    ∧ ((∀ a t, (f a t).ptc.distances = t.ptc.distances) → (forEach l f s).ptc.distances = s.ptc.distances) ∧
    ((∀ a t, (f a t).ptc.echoFailures = t.ptc.echoFailures) → (forEach l f s).ptc.echoFailures = s.ptc.echoFailures)
    ∧ ((∀ a t, (f a t).ptc.echoLost = t.ptc.echoLost) → (forEach l f s).ptc.echoLost = s.ptc.echoLost) ∧
    ((∀ a t, (f a t).ptc.levelState = t.ptc.levelState) → (forEach l f s).ptc.levelState = s.ptc.levelState) ∧
    ((∀ a t, (f a t).ptc.workingRef = t.ptc.workingRef) → (forEach l f s).ptc.workingRef = s.ptc.workingRef) ∧
    ((∀ a t, (f a t).ptc.feeder = t.ptc.feeder) → (forEach l f s).ptc.feeder = s.ptc.feeder) ∧
    ((∀ a t, (f a t).ptc.feedTimer = t.ptc.feedTimer) → (forEach l f s).ptc.feedTimer = s.ptc.feedTimer) ∧
    ((∀ a t, (f a t).ptc.calibrate = t.ptc.calibrate) → (forEach l f s).ptc.calibrate = s.ptc.calibrate) ∧
    ((∀ a t, (f a t).ptc.feed = t.ptc.feed) → (forEach l f s).ptc.feed = s.ptc.feed) ∧
    ((∀ a t, (f a t).ptc.potPeriodStart = t.ptc.potPeriodStart) → (forEach l f s).ptc.potPeriodStart = s.ptc.potPeriodStart)
    ∧
    ((∀ a t, (f a t).ptc.nextPotPeriod = t.ptc.nextPotPeriod) → (forEach l f s).ptc.nextPotPeriod = s.ptc.nextPotPeriod)
    ∧ ((∀ a t, (f a t).ptc.nextRamp = t.ptc.nextRamp) → (forEach l f s).ptc.nextRamp = s.ptc.nextRamp) ∧
    ((∀ a t, (f a t).ptc.nextEcho = t.ptc.nextEcho) → (forEach l f s).ptc.nextEcho = s.ptc.nextEcho) ∧
    ((∀ a t, (f a t).exm = t.exm) → (forEach l f s).exm = s.exm) ∧
    ((∀ a t, (f a t).exm.fanOn = t.exm.fanOn) → (forEach l f s).exm.fanOn = s.exm.fanOn) ∧
    ((∀ a t, (f a t).exm.runOn = t.exm.runOn) → (forEach l f s).exm.runOn = s.exm.runOn) ∧
    ((∀ a t, (f a t).exm.state = t.exm.state) → (forEach l f s).exm.state = s.exm.state) ∧
    ((∀ a t, (f a t).exm.suppression = t.exm.suppression) → (forEach l f s).exm.suppression = s.exm.suppression) ∧
    ((∀ a t, (f a t).exm.airflowLow = t.exm.airflowLow) → (forEach l f s).exm.airflowLow = s.exm.airflowLow) ∧
    ((∀ a t, (f a t).exm.airflowLost = t.exm.airflowLost) → (forEach l f s).exm.airflowLost = s.exm.airflowLost) ∧
    ((∀ a t, (f a t).exm.filterLoaded = t.exm.filterLoaded) → (forEach l f s).exm.filterLoaded = s.exm.filterLoaded)
    ∧
    ((∀ a t, (f a t).exm.filterClogged = t.exm.filterClogged) → (forEach l f s).exm.filterClogged = s.exm.filterClogged)
    ∧ ((∀ a t, (f a t).exm.fanStall = t.exm.fanStall) → (forEach l f s).exm.fanStall = s.exm.fanStall) ∧
    ((∀ a t, (f a t).exm.stallTimer = t.exm.stallTimer) → (forEach l f s).exm.stallTimer = s.exm.stallTimer) ∧
    ((∀ a t, (f a t).exm.clearTimer = t.exm.clearTimer) → (forEach l f s).exm.clearTimer = s.exm.clearTimer) ∧
    ((∀ a t, (f a t).exm.linkDuct = t.exm.linkDuct) → (forEach l f s).exm.linkDuct = s.exm.linkDuct) ∧
    ((∀ a t, (f a t).exm.linkFilter = t.exm.linkFilter) → (forEach l f s).exm.linkFilter = s.exm.linkFilter) ∧
    ((∀ a t, (f a t).exm.sensorLink = t.exm.sensorLink) → (forEach l f s).exm.sensorLink = s.exm.sensorLink) ∧
    ((∀ a t, (f a t).exm.grace = t.exm.grace) → (forEach l f s).exm.grace = s.exm.grace) ∧
    ((∀ a t, (f a t).exm.ductDp = t.exm.ductDp) → (forEach l f s).exm.ductDp = s.exm.ductDp) ∧
    ((∀ a t, (f a t).exm.filterDp = t.exm.filterDp) → (forEach l f s).exm.filterDp = s.exm.filterDp) ∧
    ((∀ a t, (f a t).exm.fanRpm = t.exm.fanRpm) → (forEach l f s).exm.fanRpm = s.exm.fanRpm) ∧
    ((∀ a t, (f a t).xm = t.xm) → (forEach l f s).xm = s.xm) ∧
    ((∀ a t, (f a t).free = t.free) → (forEach l f s).free = s.free) ∧
    ((∀ a t, (f a t).pending = t.pending) → (forEach l f s).pending = s.pending) := by
  refine ⟨?_, ?_, ?_, ?_, ?_, ?_, ?_, ?_, ?_, ?_, ?_, ?_, ?_, ?_, ?_, ?_, ?_, ?_, ?_, ?_, ?_, ?_, ?_, ?_, ?_, ?_, ?_, ?_, ?_, ?_, ?_, ?_, ?_, ?_, ?_, ?_, ?_, ?_, ?_, ?_, ?_, ?_, ?_, ?_, ?_, ?_, ?_, ?_, ?_, ?_, ?_, ?_, ?_, ?_, ?_, ?_, ?_, ?_, ?_, ?_, ?_, ?_, ?_, ?_, ?_, ?_, ?_, ?_, ?_, ?_, ?_, ?_, ?_, ?_, ?_, ?_, ?_, ?_, ?_, ?_, ?_, ?_, ?_, ?_, ?_, ?_, ?_, ?_, ?_, ?_, ?_, ?_, ?_, ?_, ?_, ?_, ?_, ?_, ?_, ?_, ?_, ?_, ?_, ?_, ?_, ?_, ?_, ?_, ?_, ?_, ?_, ?_, ?_, ?_, ?_, ?_, ?_, ?_, ?_, ?_, ?_, ?_, ?_, ?_⟩ <;> intro h
  · exact forEach_keeps (fun s => s.hpx) l f h s
  · exact forEach_keeps (fun s => s.hpx.phase) l f h s
  · exact forEach_keeps (fun s => s.hpx.answer) l f h s
  · exact forEach_keeps (fun s => s.hpx.slot) l f h s
  · exact forEach_keeps (fun s => s.hpx.refusal) l f h s
  · exact forEach_keeps (fun s => s.hpx.parityAddr) l f h s
  · exact forEach_keeps (fun s => s.hpx.parityInvert) l f h s
  · exact forEach_keeps (fun s => s.hpx.attn) l f h s
  · exact forEach_keeps (fun s => s.hpx.attnMask) l f h s
  · exact forEach_keeps (fun s => s.hpx.handed) l f h s
  · exact forEach_keeps (fun s => s.dkc) l f h s
  · exact forEach_keeps (fun s => s.dkc.arrival) l f h s
  · exact forEach_keeps (fun s => s.dkc.unannounced) l f h s
  · exact forEach_keeps (fun s => s.dkc.window) l f h s
  · exact forEach_keeps (fun s => s.dkc.buffer) l f h s
  · exact forEach_keeps (fun s => s.dkc.bad) l f h s
  · exact forEach_keeps (fun s => s.dkc.rxHeld) l f h s
  · exact forEach_keeps (fun s => s.dkc.rxPast) l f h s
  · exact forEach_keeps (fun s => s.cvt) l f h s
  · exact forEach_keeps (fun s => s.cvt.travel) l f h s
  · exact forEach_keeps (fun s => s.cvt.residue) l f h s
  · exact forEach_keeps (fun s => s.cvt.mmTicksDue) l f h s
  · exact forEach_keeps (fun s => s.cvt.thisInterval) l f h s
  · exact forEach_keeps (fun s => s.cvt.prevInterval) l f h s
  · exact forEach_keeps (fun s => s.cvt.measuredSpeed) l f h s
  · exact forEach_keeps (fun s => s.cvt.drive) l f h s
  · exact forEach_keeps (fun s => s.cvt.reference) l f h s
  · exact forEach_keeps (fun s => s.cvt.target) l f h s
  · exact forEach_keeps (fun s => s.cvt.stall) l f h s
  · exact forEach_keeps (fun s => s.cvt.map) l f h s
  · exact forEach_keeps (fun s => s.cvt.entryEye) l f h s
  · exact forEach_keeps (fun s => s.cvt.exitEye) l f h s
  · exact forEach_keeps (fun s => s.cvt.entryTracked) l f h s
  · exact forEach_keeps (fun s => s.cvt.exitEdge) l f h s
  · exact forEach_keeps (fun s => s.cvt.upOffer) l f h s
  · exact forEach_keeps (fun s => s.cvt.dnAccept) l f h s
  · exact forEach_keeps (fun s => s.cvt.downstream) l f h s
  · exact forEach_keeps (fun s => s.cvt.nextSpeed) l f h s
  · exact forEach_keeps (fun s => s.cvt.nextRamp) l f h s
  · exact forEach_keeps (fun s => s.amc) l f h s
  · exact forEach_keeps (fun s => s.amc.ticks) l f h s
  · exact forEach_keeps (fun s => s.amc.mode) l f h s
  · exact forEach_keeps (fun s => s.amc.activeProfile) l f h s
  · exact forEach_keeps (fun s => s.amc.inForce) l f h s
  · exact forEach_keeps (fun s => s.amc.profile) l f h s
  · exact forEach_keeps (fun s => s.amc.alarms) l f h s
  · exact forEach_keeps (fun s => s.amc.chainOpen) l f h s
  · exact forEach_keeps (fun s => s.amc.chainCount) l f h s
  · exact forEach_keeps (fun s => s.amc.finish) l f h s
  · exact forEach_keeps (fun s => s.amc.changeover) l f h s
  · exact forEach_keeps (fun s => s.cta) l f h s
  · exact forEach_keeps (fun s => s.cta.units) l f h s
  · exact forEach_keeps (fun s => s.cta.queue) l f h s
  · exact forEach_keeps (fun s => s.cta.results) l f h s
  · exact forEach_keeps (fun s => s.cta.measure) l f h s
  · exact forEach_keeps (fun s => s.cta.echoTrigs) l f h s
  · exact forEach_keeps (fun s => s.tlk) l f h s
  · exact forEach_keeps (fun s => s.tlk.channels) l f h s
  · exact forEach_keeps (fun s => s.tlk.nextFrame) l f h s
  · exact forEach_keeps (fun s => s.tlk.nextRound) l f h s
  · exact forEach_keeps (fun s => s.flk) l f h s
  · exact forEach_keeps (fun s => s.flk.duct) l f h s
  · exact forEach_keeps (fun s => s.flk.filter) l f h s
  · exact forEach_keeps (fun s => s.flk.poll) l f h s
  · exact forEach_keeps (fun s => s.flk.nextPoll) l f h s
  · exact forEach_keeps (fun s => s.fxc) l f h s
  · exact forEach_keeps (fun s => s.fxc.period) l f h s
  · exact forEach_keeps (fun s => s.fxc.active) l f h s
  · exact forEach_keeps (fun s => s.fxc.buffered) l f h s
  · exact forEach_keeps (fun s => s.fxc.valves) l f h s
  · exact forEach_keeps (fun s => s.fxc.closedPart) l f h s
  · exact forEach_keeps (fun s => s.fxc.board) l f h s
  · exact forEach_keeps (fun s => s.fxc.purge) l f h s
  · exact forEach_keeps (fun s => s.fxc.pressureOk) l f h s
  · exact forEach_keeps (fun s => s.fxc.pressureCount) l f h s
  · exact forEach_keeps (fun s => s.fxc.tankHigh) l f h s
  · exact forEach_keeps (fun s => s.fxc.tankCount) l f h s
  · exact forEach_keeps (fun s => s.phc) l f h s
  · exact forEach_keeps (fun s => s.phc.zones) l f h s
  · exact forEach_keeps (fun s => s.phc.periodStart) l f h s
  · exact forEach_keeps (fun s => s.phc.nextPeriod) l f h s
  · exact forEach_keeps (fun s => s.phc.pyro) l f h s
  · exact forEach_keeps (fun s => s.ptc) l f h s
  · exact forEach_keeps (fun s => s.ptc.pot) l f h s
  · exact forEach_keeps (fun s => s.ptc.chip) l f h s
  · exact forEach_keeps (fun s => s.ptc.main) l f h s
  · exact forEach_keeps (fun s => s.ptc.chipList) l f h s
  · exact forEach_keeps (fun s => s.ptc.mainList) l f h s
  · exact forEach_keeps (fun s => s.ptc.mainLeftRamping) l f h s
  · exact forEach_keeps (fun s => s.ptc.distances) l f h s
  · exact forEach_keeps (fun s => s.ptc.echoFailures) l f h s
  · exact forEach_keeps (fun s => s.ptc.echoLost) l f h s
  · exact forEach_keeps (fun s => s.ptc.levelState) l f h s
  · exact forEach_keeps (fun s => s.ptc.workingRef) l f h s
  · exact forEach_keeps (fun s => s.ptc.feeder) l f h s
  · exact forEach_keeps (fun s => s.ptc.feedTimer) l f h s
  · exact forEach_keeps (fun s => s.ptc.calibrate) l f h s
  · exact forEach_keeps (fun s => s.ptc.feed) l f h s
  · exact forEach_keeps (fun s => s.ptc.potPeriodStart) l f h s
  · exact forEach_keeps (fun s => s.ptc.nextPotPeriod) l f h s
  · exact forEach_keeps (fun s => s.ptc.nextRamp) l f h s
  · exact forEach_keeps (fun s => s.ptc.nextEcho) l f h s
  · exact forEach_keeps (fun s => s.exm) l f h s
  · exact forEach_keeps (fun s => s.exm.fanOn) l f h s
  · exact forEach_keeps (fun s => s.exm.runOn) l f h s
  · exact forEach_keeps (fun s => s.exm.state) l f h s
  · exact forEach_keeps (fun s => s.exm.suppression) l f h s
  · exact forEach_keeps (fun s => s.exm.airflowLow) l f h s
  · exact forEach_keeps (fun s => s.exm.airflowLost) l f h s
  · exact forEach_keeps (fun s => s.exm.filterLoaded) l f h s
  · exact forEach_keeps (fun s => s.exm.filterClogged) l f h s
  · exact forEach_keeps (fun s => s.exm.fanStall) l f h s
  · exact forEach_keeps (fun s => s.exm.stallTimer) l f h s
  · exact forEach_keeps (fun s => s.exm.clearTimer) l f h s
  · exact forEach_keeps (fun s => s.exm.linkDuct) l f h s
  · exact forEach_keeps (fun s => s.exm.linkFilter) l f h s
  · exact forEach_keeps (fun s => s.exm.sensorLink) l f h s
  · exact forEach_keeps (fun s => s.exm.grace) l f h s
  · exact forEach_keeps (fun s => s.exm.ductDp) l f h s
  · exact forEach_keeps (fun s => s.exm.filterDp) l f h s
  · exact forEach_keeps (fun s => s.exm.fanRpm) l f h s
  · exact forEach_keeps (fun s => s.xm) l f h s
  · exact forEach_keeps (fun s => s.free) l f h s
  · exact forEach_keeps (fun s => s.pending) l f h s

/-! ### Operations of Machine/Ops.lean -/

@[simp] theorem putByte_keeps (a : Nat) (v : Byte) (s : State) :
    OnlyRecords s (putByte a v s) := by
  unfold putByte; (try dsimp only) <;> (repeat' split) <;> simp

@[simp] theorem putHalf_keeps (a : Nat) (v : Half) (s : State) :
    OnlyRecords s (putHalf a v s) := by
  unfold putHalf; (try dsimp only) <;> (repeat' split) <;> simp

@[simp] theorem putWord_keeps (a : Nat) (v : Word) (s : State) :
    OnlyRecords s (putWord a v s) := by
  unfold putWord; (try dsimp only) <;> (repeat' split) <;> simp

@[simp] theorem fillBytes_keeps (a : Nat) (v : Byte) (n : Nat) (s : State) :
    OnlyRecords s (fillBytes a v n s) := by
  induction n generalizing a s with
  | zero => simp [fillBytes]
  | succ n ih => simp [fillBytes, ih]

@[simp] theorem takeHalf_keeps (v : Nat) (s : State) :
    (takeHalf v s).hpx = s.hpx ∧ (takeHalf v s).dkc = s.dkc ∧ (takeHalf v s).cvt = s.cvt ∧
    (takeHalf v s).amc = s.amc ∧ (takeHalf v s).cta = s.cta ∧ (takeHalf v s).tlk = s.tlk ∧
    (takeHalf v s).flk = s.flk ∧ (takeHalf v s).fxc = s.fxc ∧ (takeHalf v s).phc = s.phc ∧
    (takeHalf v s).ptc = s.ptc ∧ (takeHalf v s).exm = s.exm ∧ (takeHalf v s).xm = s.xm ∧
    (takeHalf v s).pending = s.pending := by
  unfold takeHalf; (try dsimp only) <;> (repeat' split) <;> simp

@[simp] theorem setAttn_keeps (c : AttnClass) (s : State) :
    OnlyCells s (setAttn c s) ∧ (setAttn c s).xm = s.xm := by
  unfold setAttn; (try dsimp only) <;> (repeat' split) <;> simp

@[simp] theorem offerParity_keeps (a : Nat) (s : State) :
    OnlyHpx s (offerParity a s) ∧ SameHpxButParity s (offerParity a s) := by
  unfold offerParity; (try dsimp only) <;> (repeat' split) <;> simp

@[simp] theorem readChecked_keeps (addrs : List Nat) (s : State) :
    OnlyHpx s (readChecked addrs s) ∧ SameHpxButParity s (readChecked addrs s) := by
  unfold readChecked; (try dsimp only) <;> (repeat' split) <;> simp

@[simp] theorem offerRefusal_keeps (addr data : Half) (reason : RefusalReason) (s : State) :
    OnlyHpx s (offerRefusal addr data reason s) ∧ (offerRefusal addr data reason s).hpx.phase = s.hpx.phase ∧
    (offerRefusal addr data reason s).hpx.answer = s.hpx.answer ∧
    (offerRefusal addr data reason s).hpx.slot = s.hpx.slot ∧
    (offerRefusal addr data reason s).hpx.parityAddr = s.hpx.parityAddr ∧
    (offerRefusal addr data reason s).hpx.parityInvert = s.hpx.parityInvert ∧
    (offerRefusal addr data reason s).hpx.attnMask = s.hpx.attnMask ∧
    (offerRefusal addr data reason s).hpx.handed = s.hpx.handed := by
  unfold offerRefusal; (try dsimp only) <;> (repeat' split) <;> simp

@[simp] theorem slotRuled_keeps (accepted : Bool) (s : State) :
    OnlyHpx s (slotRuled accepted s) ∧ (slotRuled accepted s).hpx.phase = s.hpx.phase ∧
    (slotRuled accepted s).hpx.answer = s.hpx.answer ∧ (slotRuled accepted s).hpx.refusal = s.hpx.refusal ∧
    (slotRuled accepted s).hpx.parityAddr = s.hpx.parityAddr ∧
    (slotRuled accepted s).hpx.parityInvert = s.hpx.parityInvert ∧ (slotRuled accepted s).hpx.attn = s.hpx.attn ∧
    (slotRuled accepted s).hpx.attnMask = s.hpx.attnMask ∧ (slotRuled accepted s).hpx.handed = s.hpx.handed := by
  unfold slotRuled; (try dsimp only) <;> (repeat' split) <;> simp

@[simp] theorem ruleAccepted_keeps (s : State) :
    OnlyHpx s (ruleAccepted s) ∧ (ruleAccepted s).hpx.phase = s.hpx.phase ∧
    (ruleAccepted s).hpx.answer = s.hpx.answer ∧ (ruleAccepted s).hpx.refusal = s.hpx.refusal ∧
    (ruleAccepted s).hpx.parityAddr = s.hpx.parityAddr ∧ (ruleAccepted s).hpx.parityInvert = s.hpx.parityInvert ∧
    (ruleAccepted s).hpx.attn = s.hpx.attn ∧ (ruleAccepted s).hpx.attnMask = s.hpx.attnMask ∧
    (ruleAccepted s).hpx.handed = s.hpx.handed := by
  unfold ruleAccepted; (try dsimp only) <;> (repeat' split) <;> simp

@[simp] theorem ruleRefused_keeps (reason : RefusalReason) (s : State) :
    OnlyHpx s (ruleRefused reason s) ∧ (ruleRefused reason s).hpx.phase = s.hpx.phase ∧
    (ruleRefused reason s).hpx.answer = s.hpx.answer ∧ (ruleRefused reason s).hpx.parityAddr = s.hpx.parityAddr ∧
    (ruleRefused reason s).hpx.parityInvert = s.hpx.parityInvert ∧
    (ruleRefused reason s).hpx.attnMask = s.hpx.attnMask ∧ (ruleRefused reason s).hpx.handed = s.hpx.handed := by
  unfold ruleRefused; (try dsimp only) <;> (repeat' split) <;> simp

@[simp] theorem readArgs_keeps (c : CellNo) (n : Nat) (s : State) :
    OnlyHpx s (readArgs c n s) ∧ SameHpxButParity s (readArgs c n s) := by
  unfold readArgs; (try dsimp only) <;> (repeat' split) <;> simp

@[simp] theorem putReply_keeps (c : CellNo) (j : Nat) (v : Half) (s : State) :
    OnlyRecords s (putReply c j v s) := by
  unfold putReply; (try dsimp only) <;> (repeat' split) <;> simp

@[simp] theorem putReplyWord_keeps (c : CellNo) (j : Nat) (v : Word) (s : State) :
    OnlyRecords s (putReplyWord c j v s) := by
  unfold putReplyWord; (try dsimp only) <;> (repeat' split) <;> simp

@[simp] theorem endCell_keeps (c : CellNo) (r : RequestResult) (s : State) :
    OnlyCells s (endCell c r s) := by
  unfold endCell; (try dsimp only) <;> (repeat' split) <;> simp

@[simp] theorem takeHanded_keeps (c : CellNo) (s : State) :
    OnlyHpx s (takeHanded c s) ∧ (takeHanded c s).hpx.phase = s.hpx.phase ∧
    (takeHanded c s).hpx.answer = s.hpx.answer ∧ (takeHanded c s).hpx.slot = s.hpx.slot ∧
    (takeHanded c s).hpx.refusal = s.hpx.refusal ∧ (takeHanded c s).hpx.parityAddr = s.hpx.parityAddr ∧
    (takeHanded c s).hpx.parityInvert = s.hpx.parityInvert ∧ (takeHanded c s).hpx.attn = s.hpx.attn ∧
    (takeHanded c s).hpx.attnMask = s.hpx.attnMask := by
  unfold takeHanded; (try dsimp only) <;> (repeat' split) <;> simp

@[simp] theorem pinUp_keeps (r : RecipeNo) (s : State) :
    OnlyRecords s (pinUp r s) := by
  unfold pinUp; (try dsimp only) <;> (repeat' split) <;> simp

@[simp] theorem pinDown_keeps (r : RecipeNo) (s : State) :
    OnlyRecords s (pinDown r s) := by
  unfold pinDown; (try dsimp only) <;> (repeat' split) <;> simp

@[simp] theorem putReason_keeps (d : DocketNo) (r : Reason) (s : State) :
    OnlyRecords s (putReason d r s) := by
  unfold putReason; (try dsimp only) <;> (repeat' split) <;> simp

@[simp] theorem addReason_keeps (d : DocketNo) (r : Reason) (s : State) :
    OnlyRecords s (addReason d r s) := by
  unfold addReason whileOnLine; (repeat' split) <;> simp

@[simp] theorem putNote_keeps (d : DocketNo) (bit : Byte) (s : State) :
    OnlyRecords s (putNote d bit s) := by
  unfold putNote; (try dsimp only) <;> (repeat' split) <;> simp

@[simp] theorem putField_keeps (d : DocketNo) (off : Nat) (v : Half) (s : State) :
    OnlyRecords s (putField d off v s) := by
  unfold putField whileOnLine; (repeat' split) <;> simp

@[simp] theorem putFieldWord_keeps (d : DocketNo) (off : Nat) (v : Word) (s : State) :
    OnlyRecords s (putFieldWord d off v s) := by
  unfold putFieldWord whileOnLine; (repeat' split) <;> simp

@[simp] theorem putStage_keeps (d : DocketNo) (stage : Byte) (s : State) :
    OnlyRecords s (putStage d stage s) := by
  unfold putStage whileOnLine; (repeat' split) <;> simp

end Sys2Proof.Machine
end

