-- ==== Sys2Proof/Laws/BlockFrames.lean ====
section
/-! SUPPORT. Frames of the operations of the alarm table, the counter array, the flux bar, the drive and the preheat. -/

namespace Sys2Proof.Machine

@[simp] theorem offerFailure_keeps (f : Option FieldFailure) (s : State) :
    OnlyHpx s (offerFailure f s) ∧ SameHpxButParity s (offerFailure f s) := by
  unfold offerFailure; (try dsimp only) <;> (repeat' split) <;> simp

@[simp] theorem offerProfileReads_keeps (f : Option FieldFailure) (s : State) :
    OnlyHpx s (offerProfileReads f s) ∧ SameHpxButParity s (offerProfileReads f s) := by
  unfold offerProfileReads; (try dsimp only) <;> (repeat' split) <;> simp

@[simp] theorem putAlarm_keeps (a : Alarm) (e : AlarmEntry) (s : State) :
    (putAlarm a e s).hpx = s.hpx ∧ (putAlarm a e s).dkc = s.dkc ∧ (putAlarm a e s).cvt = s.cvt ∧
    SameAmc s (putAlarm a e s) ∧ (putAlarm a e s).cta = s.cta ∧ (putAlarm a e s).tlk = s.tlk ∧
    (putAlarm a e s).flk = s.flk ∧ (putAlarm a e s).fxc = s.fxc ∧ (putAlarm a e s).phc = s.phc ∧
    (putAlarm a e s).ptc = s.ptc ∧ (putAlarm a e s).exm = s.exm ∧ (putAlarm a e s).xm = s.xm ∧
    (putAlarm a e s).free = s.free ∧ (putAlarm a e s).pending = s.pending := by
  unfold putAlarm; (try dsimp only) <;> (repeat' split) <;> simp

@[simp] theorem setAlarmState_keeps (a : Alarm) (st : AlarmState) (s : State) :
    OnlyAlarms s (setAlarmState a st s) ∧ (setAlarmState a st s).xm = s.xm := by
  unfold setAlarmState; (try dsimp only) <;> (repeat' split) <;> simp

@[simp] theorem recordAlarm_keeps (a : Alarm) (detail : Half) (docket : Option DocketNo) (s : State) :
    (recordAlarm a detail docket s).hpx = s.hpx ∧ (recordAlarm a detail docket s).dkc = s.dkc ∧
    (recordAlarm a detail docket s).cvt = s.cvt ∧ SameAmc s (recordAlarm a detail docket s) ∧
    (recordAlarm a detail docket s).cta = s.cta ∧ (recordAlarm a detail docket s).tlk = s.tlk ∧
    (recordAlarm a detail docket s).flk = s.flk ∧ (recordAlarm a detail docket s).fxc = s.fxc ∧
    (recordAlarm a detail docket s).phc = s.phc ∧ (recordAlarm a detail docket s).ptc = s.ptc ∧
    (recordAlarm a detail docket s).exm = s.exm ∧ (recordAlarm a detail docket s).xm = s.xm ∧
    (recordAlarm a detail docket s).free = s.free ∧ (recordAlarm a detail docket s).pending = s.pending := by
  unfold recordAlarm; (try dsimp only) <;> (repeat' split) <;> simp

@[simp] theorem claimRaise_keeps (a : Alarm) (detail : Half) (docket : Option DocketNo) (s : State) :
    OnlyAlarms s (claimRaise a detail docket s) ∧ (claimRaise a detail docket s).xm = s.xm := by
  unfold claimRaise; (try dsimp only) <;> (repeat' split) <;> simp

@[simp] theorem claimClear_keeps (a : Alarm) (s : State) :
    OnlyAlarms s (claimClear a s) ∧ (claimClear a s).xm = s.xm := by
  unfold claimClear; (try dsimp only) <;> (repeat' split) <;> simp

@[simp] theorem claimPulse_keeps (a : Alarm) (detail : Half) (docket : Option DocketNo) (s : State) :
    OnlyAlarms s (claimPulse a detail docket s) ∧ (claimPulse a detail docket s).xm = s.xm := by
  unfold claimPulse; (try dsimp only) <;> (repeat' split) <;> simp

@[simp] theorem acknowledge_keeps (a : Alarm) (s : State) :
    OnlyAlarms s (acknowledge a s) ∧ (acknowledge a s).xm = s.xm := by
  unfold acknowledge; (try dsimp only) <;> (repeat' split) <;> simp

@[simp] theorem reportBad_keeps (addrs : List Nat) (d : DocketNo) (s : State) :
    SameHpxButParity s (reportBad addrs d s) ∧ (reportBad addrs d s).dkc = s.dkc ∧ (reportBad addrs d s).cvt = s.cvt
    ∧ SameAmc s (reportBad addrs d s) ∧ (reportBad addrs d s).cta = s.cta ∧ (reportBad addrs d s).tlk = s.tlk ∧
    (reportBad addrs d s).flk = s.flk ∧ (reportBad addrs d s).fxc = s.fxc ∧ (reportBad addrs d s).phc = s.phc ∧
    (reportBad addrs d s).ptc = s.ptc ∧ (reportBad addrs d s).exm = s.exm ∧ (reportBad addrs d s).free = s.free ∧
    (reportBad addrs d s).pending = s.pending := by
  unfold reportBad; (try dsimp only) <;> (repeat' split) <;> simp

@[simp] theorem putUnit_keeps (u : UnitNo) (c : Option CountUnit) (s : State) :
    OnlyCta s (putUnit u c s) ∧ (putUnit u c s).cta.queue = s.cta.queue ∧
    (putUnit u c s).cta.results = s.cta.results ∧ (putUnit u c s).cta.measure = s.cta.measure ∧
    (putUnit u c s).cta.echoTrigs = s.cta.echoTrigs := by
  unfold putUnit; (try dsimp only) <;> (repeat' split) <;> simp

@[simp] theorem mapStanding_keeps (src : Source) (f : Claim → Claim) (s : State) :
    OnlyCta s (mapStanding src f s) ∧ (mapStanding src f s).cta.results = s.cta.results ∧
    (mapStanding src f s).cta.measure = s.cta.measure ∧ (mapStanding src f s).cta.echoTrigs = s.cta.echoTrigs := by
  unfold mapStanding; (try dsimp only) <;> (repeat' split) <;> simp

@[simp] theorem dropWaiting_keeps (src : Source) (s : State) :
    OnlyCta s (dropWaiting src s) ∧ (dropWaiting src s).cta.units = s.cta.units ∧
    (dropWaiting src s).cta.results = s.cta.results ∧ (dropWaiting src s).cta.measure = s.cta.measure ∧
    (dropWaiting src s).cta.echoTrigs = s.cta.echoTrigs := by
  unfold dropWaiting; (try dsimp only) <;> (repeat' split) <;> simp

@[simp] theorem grant_keeps (u : UnitNo) (c : Claim) (s : State) :
    OnlyCta s (grant u c s) ∧ (grant u c s).cta.queue = s.cta.queue ∧ (grant u c s).cta.results = s.cta.results ∧
    (grant u c s).cta.measure = s.cta.measure := by
  unfold grant; (try dsimp only) <;> (repeat' split) <;> simp

@[simp] theorem freeAndGrant_keeps (u : UnitNo) (s : State) :
    OnlyCta s (freeAndGrant u s) ∧ (freeAndGrant u s).cta.results = s.cta.results ∧
    (freeAndGrant u s).cta.measure = s.cta.measure := by
  unfold freeAndGrant; (try dsimp only) <;> (repeat' split) <;> simp

@[simp] theorem writeResult_keeps (src : Source) (status : ResultStatus) (value : Option Nat) (s : State) :
    OnlyCta s (writeResult src status value s) ∧ (writeResult src status value s).cta.units = s.cta.units ∧
    (writeResult src status value s).cta.queue = s.cta.queue ∧
    (writeResult src status value s).cta.measure = s.cta.measure ∧
    (writeResult src status value s).cta.echoTrigs = s.cta.echoTrigs := by
  unfold writeResult; (try dsimp only) <;> (repeat' split) <;> simp

@[simp] theorem measureResult_keeps (c : Claim) (status : ResultStatus) (value : Option Nat) (s : State) :
    OnlyClaims s (measureResult c status value s) ∧ (measureResult c status value s).cta.units = s.cta.units ∧
    (measureResult c status value s).cta.queue = s.cta.queue ∧
    (measureResult c status value s).cta.results = s.cta.results ∧
    (measureResult c status value s).cta.echoTrigs = s.cta.echoTrigs := by
  unfold measureResult; (try dsimp only) <;> (repeat' split) <;> simp

@[simp] theorem toDiag_keeps (c : Claim) (status : ResultStatus) (value : Option Nat) (s : State) :
    OnlyClaims s (toDiag c status value s) ∧ (toDiag c status value s).cta.units = s.cta.units ∧
    (toDiag c status value s).cta.queue = s.cta.queue ∧ (toDiag c status value s).cta.results = s.cta.results ∧
    (toDiag c status value s).cta.echoTrigs = s.cta.echoTrigs := by
  unfold toDiag; (try dsimp only) <;> (repeat' split) <;> simp

@[simp] theorem placeNew_keeps (c : Claim) (s : State) :
    OnlyCta s (placeNew c s) ∧ (placeNew c s).cta.results = s.cta.results ∧
    (placeNew c s).cta.measure = s.cta.measure := by
  unfold placeNew; (try dsimp only) <;> (repeat' split) <;> simp

@[simp] theorem displaceDiag_keeps (old c : Claim) (s : State) :
    OnlyClaims s (displaceDiag old c s) := by
  unfold displaceDiag; (try dsimp only) <;> (repeat' split) <;> simp

@[simp] theorem placeBlock_keeps (src : Source) (m : CountMode) (who : Claimant) (s : State) :
    OnlyClaims s (placeBlock src m who s) := by
  unfold placeBlock; (try dsimp only) <;> (repeat' split) <;> simp

@[simp] theorem reclaim_keeps (c : Claim) (s : State) :
    OnlyClaims s (reclaim c s) := by
  unfold reclaim; (try dsimp only) <;> (repeat' split) <;> simp

@[simp] theorem preempt_keeps (u : UnitNo) (c : Claim) (s : State) :
    OnlyClaims s (preempt u c s) := by
  unfold preempt; (try dsimp only) <;> (repeat' split) <;> simp

@[simp] theorem placeFlowNew_keeps (c : Claim) (s : State) :
    OnlyClaims s (placeFlowNew c s) := by
  unfold placeFlowNew; (try dsimp only) <;> (repeat' split) <;> simp

@[simp] theorem placeFlow_keeps (s : State) :
    OnlyClaims s (placeFlow s) := by
  unfold placeFlow; (try dsimp only) <;> (repeat' split) <;> simp

@[simp] theorem placeDiag_keeps (src : Source) (m : CountMode) (s : State) :
    OnlyClaims s (placeDiag src m s) := by
  unfold placeDiag; (try dsimp only) <;> (repeat' split) <;> simp

@[simp] theorem endOpen_keeps (u : UnitNo) (c : CountUnit) (s : State) :
    OnlyClaims s (endOpen u c s) := by
  unfold endOpen; (try dsimp only) <;> (repeat' split) <;> simp

@[simp] theorem closeFlow_keeps (s : State) :
    OnlyClaims s (closeFlow s) := by
  unfold closeFlow; (try dsimp only) <;> (repeat' split) <;> simp

@[simp] theorem withdraw_keeps (src : Source) (who : Claimant) (s : State) :
    OnlyClaims s (withdraw src who s) := by
  unfold withdraw; (try dsimp only) <;> (repeat' split) <;> simp

@[simp] theorem diagOut_keeps (s : State) :
    OnlyCta s (diagOut s) ∧ (diagOut s).cta.results = s.cta.results ∧ (diagOut s).cta.measure = s.cta.measure := by
  unfold diagOut; (try dsimp only) <;> (repeat' split) <;> simp

@[simp] theorem closeValves_keeps (s : State) :
    OnlyFxc s (closeValves s) ∧ SameFluxInputs s (closeValves s) ∧ (closeValves s).fxc.board = s.fxc.board ∧
    (closeValves s).fxc.purge = s.fxc.purge := by
  unfold closeValves; (try dsimp only) <;> (repeat' split) <;> simp

@[simp] theorem takeFlow_keeps (stored : Option FlowResult) (s : State) :
    OnlyClaims s (takeFlow stored s) := by
  unfold takeFlow; (try dsimp only) <;> (repeat' split) <;> simp

@[simp] theorem writeDose_keeps (d : DocketNo) (time : Nat) (dose : Option Nat) (s : State) :
    OnlyRecords s (writeDose d time dose s) := by
  unfold writeDose; (try dsimp only) <;> (repeat' split) <;> simp

@[simp] theorem judgeNoFlow_keeps (d : Option DocketNo) (time : Nat) (r : Option FlowResult) (s : State) :
    OnlyAlarms s (judgeNoFlow d time r s) := by
  unfold judgeNoFlow; (try dsimp only) <;> (repeat' split) <;> simp

@[simp] theorem checkDose_keeps (d : DocketNo) (dose : Option Nat) (s : State) :
    SameHpxButParity s (checkDose d dose s) ∧ (checkDose d dose s).dkc = s.dkc ∧ (checkDose d dose s).cvt = s.cvt ∧
    SameAmc s (checkDose d dose s) ∧ (checkDose d dose s).cta = s.cta ∧ (checkDose d dose s).tlk = s.tlk ∧
    (checkDose d dose s).flk = s.flk ∧ (checkDose d dose s).fxc = s.fxc ∧ (checkDose d dose s).phc = s.phc ∧
    (checkDose d dose s).ptc = s.ptc ∧ (checkDose d dose s).exm = s.exm ∧ (checkDose d dose s).free = s.free ∧
    (checkDose d dose s).pending = s.pending := by
  unfold checkDose; (try dsimp only) <;> (repeat' split) <;> simp

@[simp] theorem interruptBoard_keeps (s : State) :
    OnlyFlux s (interruptBoard s) ∧ (interruptBoard s).fxc.purge = s.fxc.purge := by
  unfold interruptBoard; (try dsimp only) <;> (repeat' split) <;> simp

@[simp] theorem endPurgeWait_keeps (p : Purge) (result : RequestResult) (s : State) :
    SameHpx s (endPurgeWait p result s) ∧ (endPurgeWait p result s).dkc = s.dkc ∧
    (endPurgeWait p result s).cvt = s.cvt ∧ (endPurgeWait p result s).amc = s.amc ∧
    (endPurgeWait p result s).cta = s.cta ∧ (endPurgeWait p result s).tlk = s.tlk ∧
    (endPurgeWait p result s).flk = s.flk ∧ SameFluxInputs s (endPurgeWait p result s) ∧
    (endPurgeWait p result s).fxc.active = s.fxc.active ∧ (endPurgeWait p result s).fxc.buffered = s.fxc.buffered ∧
    (endPurgeWait p result s).fxc.valves = s.fxc.valves ∧
    (endPurgeWait p result s).fxc.closedPart = s.fxc.closedPart ∧ (endPurgeWait p result s).fxc.board = s.fxc.board
    ∧ (endPurgeWait p result s).phc = s.phc ∧ (endPurgeWait p result s).ptc = s.ptc ∧
    (endPurgeWait p result s).exm = s.exm ∧ (endPurgeWait p result s).free = s.free ∧
    (endPurgeWait p result s).pending = s.pending := by
  unfold endPurgeWait; (try dsimp only) <;> (repeat' split) <;> simp

@[simp] theorem purgeReplies_keeps (p : Purge) (r : Option FlowResult) (ms : Nat) (s : State) :
    OnlyRecords s (purgeReplies p r ms s) := by
  unfold purgeReplies; (try dsimp only) <;> (repeat' split) <;> simp

@[simp] theorem endPurgeSpray_keeps (p : Purge) (result : RequestResult) (ms : Nat) (s : State) :
    OnlyFlux s (endPurgeSpray p result ms s) ∧ (endPurgeSpray p result ms s).fxc.board = s.fxc.board := by
  unfold endPurgeSpray; (try dsimp only) <;> (repeat' split) <;> simp

@[simp] theorem purgeLoss_keeps (s : State) :
    OnlyFlux s (purgeLoss s) ∧ (purgeLoss s).fxc.board = s.fxc.board := by
  unfold purgeLoss; (try dsimp only) <;> (repeat' split) <;> simp

@[simp] theorem fluxLoss_keeps (s : State) :
    OnlyFlux s (fluxLoss s) := by
  unfold fluxLoss; (try dsimp only) <;> (repeat' split) <;> simp

@[simp] theorem raiseLow_keeps (a : Alarm) (detail : Half) (docket : Option DocketNo) (s : State) :
    OnlyFlux s (raiseLow a detail docket s) := by
  unfold raiseLow; (try dsimp only) <;> (repeat' split) <;> simp

@[simp] theorem pulseLow_keeps (a : Alarm) (detail : Half) (docket : Option DocketNo) (s : State) :
    OnlyFlux s (pulseLow a detail docket s) := by
  unfold pulseLow; (try dsimp only) <;> (repeat' split) <;> simp

@[simp] theorem judgeLow_keeps (a : Alarm) (holds : Bool) (detail : Half) (s : State) :
    OnlyFlux s (judgeLow a holds detail s) := by
  unfold judgeLow; (try dsimp only) <;> (repeat' split) <;> simp

@[simp] theorem judgePressure_keeps (s : State) :
    OnlyFlux s (judgePressure s) := by
  unfold judgePressure; (try dsimp only) <;> (repeat' split) <;> simp

@[simp] theorem judgeTank_keeps (s : State) :
    OnlyFlux s (judgeTank s) := by
  unfold judgeTank; (try dsimp only) <;> (repeat' split) <;> simp

@[simp] theorem bufferLoad_keeps (l : Load) (s : State) :
    OnlyFxc s (bufferLoad l s) ∧ SameFluxInputs s (bufferLoad l s) ∧ (bufferLoad l s).fxc.active = s.fxc.active ∧
    (bufferLoad l s).fxc.valves = s.fxc.valves ∧ (bufferLoad l s).fxc.closedPart = s.fxc.closedPart ∧
    (bufferLoad l s).fxc.board = s.fxc.board ∧ (bufferLoad l s).fxc.purge = s.fxc.purge := by
  unfold bufferLoad; (try dsimp only) <;> (repeat' split) <;> simp

@[simp] theorem evaluateBands_keeps (s : State) :
    OnlyFxc s (evaluateBands s) ∧ SameFluxInputs s (evaluateBands s) ∧ (evaluateBands s).fxc.purge = s.fxc.purge := by
  unfold evaluateBands; (try dsimp only) <;> (repeat' split) <;> simp

@[simp] theorem fluxBegin_keeps (board : Word) (d : DocketNo) (s : State) :
    SameHpx s (fluxBegin board d s) ∧ (fluxBegin board d s).dkc = s.dkc ∧ (fluxBegin board d s).cvt = s.cvt ∧
    (fluxBegin board d s).amc = s.amc ∧ (fluxBegin board d s).tlk = s.tlk ∧ (fluxBegin board d s).flk = s.flk ∧
    SameFluxInputs s (fluxBegin board d s) ∧ (fluxBegin board d s).fxc.purge = s.fxc.purge ∧
    (fluxBegin board d s).phc = s.phc ∧ (fluxBegin board d s).ptc = s.ptc ∧ (fluxBegin board d s).exm = s.exm ∧
    (fluxBegin board d s).free = s.free ∧ (fluxBegin board d s).pending = s.pending := by
  unfold fluxBegin; (try dsimp only) <;> (repeat' split) <;> simp

@[simp] theorem fluxIn_keeps (board : Word) (docket : Option DocketNo) (s : State) :
    SameHpxButParity s (fluxIn board docket s) ∧ (fluxIn board docket s).dkc = s.dkc ∧
    (fluxIn board docket s).cvt = s.cvt ∧ SameAmc s (fluxIn board docket s) ∧ (fluxIn board docket s).tlk = s.tlk ∧
    (fluxIn board docket s).flk = s.flk ∧ SameFluxInputs s (fluxIn board docket s) ∧
    (fluxIn board docket s).fxc.purge = s.fxc.purge ∧ (fluxIn board docket s).phc = s.phc ∧
    (fluxIn board docket s).ptc = s.ptc ∧ (fluxIn board docket s).exm = s.exm ∧
    (fluxIn board docket s).free = s.free ∧ (fluxIn board docket s).pending = s.pending := by
  unfold fluxIn; (try dsimp only) <;> (repeat' split) <;> simp

@[simp] theorem fluxDiscard_keeps (s : State) :
    SameHpx s (fluxDiscard s) ∧ (fluxDiscard s).dkc = s.dkc ∧ (fluxDiscard s).cvt = s.cvt ∧
    (fluxDiscard s).amc = s.amc ∧ (fluxDiscard s).tlk = s.tlk ∧ (fluxDiscard s).flk = s.flk ∧
    SameFluxInputs s (fluxDiscard s) ∧ (fluxDiscard s).fxc.purge = s.fxc.purge ∧ (fluxDiscard s).phc = s.phc ∧
    (fluxDiscard s).ptc = s.ptc ∧ (fluxDiscard s).exm = s.exm ∧ (fluxDiscard s).free = s.free ∧
    (fluxDiscard s).pending = s.pending := by
  unfold fluxDiscard; (try dsimp only) <;> (repeat' split) <;> simp

@[simp] theorem flowWrapped_keeps (s : State) :
    OnlyFxc s (flowWrapped s) ∧ SameFluxInputs s (flowWrapped s) ∧ (flowWrapped s).fxc.active = s.fxc.active ∧
    (flowWrapped s).fxc.buffered = s.fxc.buffered ∧ (flowWrapped s).fxc.valves = s.fxc.valves ∧
    (flowWrapped s).fxc.closedPart = s.fxc.closedPart := by
  unfold flowWrapped; (try dsimp only) <;> (repeat' split) <;> simp

@[simp] theorem sprayStart_keeps (s : State) :
    OnlyFlux s (sprayStart s) := by
  unfold sprayStart; (try dsimp only) <;> (repeat' split) <;> simp

@[simp] theorem fluxOutOf_keeps (b : FluxBoard) (s : State) :
    SameHpxButParity s (fluxOutOf b s) ∧ (fluxOutOf b s).dkc = s.dkc ∧ (fluxOutOf b s).cvt = s.cvt ∧
    SameAmc s (fluxOutOf b s) ∧ (fluxOutOf b s).tlk = s.tlk ∧ (fluxOutOf b s).flk = s.flk ∧
    SameFluxInputs s (fluxOutOf b s) ∧ (fluxOutOf b s).phc = s.phc ∧ (fluxOutOf b s).ptc = s.ptc ∧
    (fluxOutOf b s).exm = s.exm ∧ (fluxOutOf b s).free = s.free ∧ (fluxOutOf b s).pending = s.pending := by
  unfold fluxOutOf; (try dsimp only) <;> (repeat' split) <;> simp

@[simp] theorem fluxOut_keeps (board : Word) (s : State) :
    SameHpxButParity s (fluxOut board s) ∧ (fluxOut board s).dkc = s.dkc ∧ (fluxOut board s).cvt = s.cvt ∧
    SameAmc s (fluxOut board s) ∧ (fluxOut board s).tlk = s.tlk ∧ (fluxOut board s).flk = s.flk ∧
    SameFluxInputs s (fluxOut board s) ∧ (fluxOut board s).phc = s.phc ∧ (fluxOut board s).ptc = s.ptc ∧
    (fluxOut board s).exm = s.exm ∧ (fluxOut board s).free = s.free ∧ (fluxOut board s).pending = s.pending := by
  unfold fluxOut; (try dsimp only) <;> (repeat' split) <;> simp

@[simp] theorem sprayExpiry_keeps (s : State) :
    OnlyFlux s (sprayExpiry s) ∧ (sprayExpiry s).fxc.board = s.fxc.board := by
  unfold sprayExpiry; (try dsimp only) <;> (repeat' split) <;> simp

@[simp] theorem beginPeriod_keeps (s : State) :
    OnlyFxc s (beginPeriod s) ∧ (beginPeriod s).fxc.closedPart = s.fxc.closedPart ∧
    (beginPeriod s).fxc.board = s.fxc.board ∧ (beginPeriod s).fxc.pressureOk = s.fxc.pressureOk ∧
    (beginPeriod s).fxc.pressureCount = s.fxc.pressureCount ∧ (beginPeriod s).fxc.tankHigh = s.fxc.tankHigh ∧
    (beginPeriod s).fxc.tankCount = s.fxc.tankCount := by
  unfold beginPeriod; (try dsimp only) <;> (repeat' split) <;> simp

@[simp] theorem periodStart_keeps (s : State) :
    OnlyFxc s (periodStart s) ∧ (periodStart s).fxc.closedPart = s.fxc.closedPart ∧
    (periodStart s).fxc.board = s.fxc.board ∧ (periodStart s).fxc.pressureOk = s.fxc.pressureOk ∧
    (periodStart s).fxc.pressureCount = s.fxc.pressureCount ∧ (periodStart s).fxc.tankHigh = s.fxc.tankHigh ∧
    (periodStart s).fxc.tankCount = s.fxc.tankCount := by
  unfold periodStart; (try dsimp only) <;> (repeat' split) <;> simp

@[simp] theorem openTimeEnd_keeps (s : State) :
    OnlyFxc s (openTimeEnd s) ∧ SameFluxInputs s (openTimeEnd s) ∧ (openTimeEnd s).fxc.active = s.fxc.active ∧
    (openTimeEnd s).fxc.buffered = s.fxc.buffered ∧ (openTimeEnd s).fxc.closedPart = s.fxc.closedPart ∧
    (openTimeEnd s).fxc.board = s.fxc.board ∧ (openTimeEnd s).fxc.purge = s.fxc.purge := by
  unfold openTimeEnd; (try dsimp only) <;> (repeat' split) <;> simp

@[simp] theorem followTarget_keeps (s : State) :
    OnlyCvt s (followTarget s) ∧ SameCvtButDrive s (followTarget s) ∧
    (followTarget s).cvt.reference = s.cvt.reference ∧ (followTarget s).cvt.stall = s.cvt.stall ∧
    (followTarget s).cvt.downstream = s.cvt.downstream := by
  unfold followTarget; (try dsimp only) <;> (repeat' split) <;> simp

@[simp] theorem stopDrive_keeps (s : State) :
    SameHpx s (stopDrive s) ∧ (stopDrive s).dkc = s.dkc ∧ SameCvtButDrive s (stopDrive s) ∧
    (stopDrive s).cvt.downstream = s.cvt.downstream ∧ SameAmc s (stopDrive s) ∧ (stopDrive s).cta = s.cta ∧
    (stopDrive s).tlk = s.tlk ∧ (stopDrive s).flk = s.flk ∧ (stopDrive s).fxc = s.fxc ∧ (stopDrive s).phc = s.phc ∧
    (stopDrive s).ptc = s.ptc ∧ (stopDrive s).exm = s.exm ∧ (stopDrive s).xm = s.xm ∧ (stopDrive s).free = s.free ∧
    (stopDrive s).pending = s.pending := by
  unfold stopDrive; (try dsimp only) <;> (repeat' split) <;> simp

@[simp] theorem releaseDrive_keeps (s : State) :
    OnlyCvt s (releaseDrive s) ∧ SameCvtButDrive s (releaseDrive s) ∧
    (releaseDrive s).cvt.reference = s.cvt.reference ∧ (releaseDrive s).cvt.stall = s.cvt.stall ∧
    (releaseDrive s).cvt.downstream = s.cvt.downstream := by
  unfold releaseDrive; (try dsimp only) <;> (repeat' split) <;> simp

@[simp] theorem followStop_keeps (before : Bool) (s : State) :
    SameHpx s (followStop before s) ∧ (followStop before s).dkc = s.dkc ∧ SameCvtButDrive s (followStop before s) ∧
    (followStop before s).cvt.downstream = s.cvt.downstream ∧ SameAmc s (followStop before s) ∧
    (followStop before s).cta = s.cta ∧ (followStop before s).tlk = s.tlk ∧ (followStop before s).flk = s.flk ∧
    (followStop before s).fxc = s.fxc ∧ (followStop before s).phc = s.phc ∧ (followStop before s).ptc = s.ptc ∧
    (followStop before s).exm = s.exm ∧ (followStop before s).xm = s.xm ∧ (followStop before s).free = s.free ∧
    (followStop before s).pending = s.pending := by
  unfold followStop; (try dsimp only) <;> (repeat' split) <;> simp

@[simp] theorem driveRamp_keeps (s : State) :
    OnlyCvt s (driveRamp s) ∧ (driveRamp s).cvt.travel = s.cvt.travel ∧ (driveRamp s).cvt.residue = s.cvt.residue ∧
    (driveRamp s).cvt.mmTicksDue = s.cvt.mmTicksDue ∧ (driveRamp s).cvt.thisInterval = s.cvt.thisInterval ∧
    (driveRamp s).cvt.prevInterval = s.cvt.prevInterval ∧ (driveRamp s).cvt.measuredSpeed = s.cvt.measuredSpeed ∧
    (driveRamp s).cvt.target = s.cvt.target ∧ (driveRamp s).cvt.map = s.cvt.map ∧
    (driveRamp s).cvt.entryEye = s.cvt.entryEye ∧ (driveRamp s).cvt.exitEye = s.cvt.exitEye ∧
    (driveRamp s).cvt.entryTracked = s.cvt.entryTracked ∧ (driveRamp s).cvt.exitEdge = s.cvt.exitEdge ∧
    (driveRamp s).cvt.upOffer = s.cvt.upOffer ∧ (driveRamp s).cvt.dnAccept = s.cvt.dnAccept ∧
    (driveRamp s).cvt.downstream = s.cvt.downstream ∧ (driveRamp s).cvt.nextSpeed = s.cvt.nextSpeed := by
  unfold driveRamp; (try dsimp only) <;> (repeat' split) <;> simp

@[simp] theorem measureSpeed_keeps (s : State) :
    OnlyCvt s (measureSpeed s) ∧ (measureSpeed s).cvt.travel = s.cvt.travel ∧
    (measureSpeed s).cvt.residue = s.cvt.residue ∧ (measureSpeed s).cvt.mmTicksDue = s.cvt.mmTicksDue ∧
    (measureSpeed s).cvt.reference = s.cvt.reference ∧ (measureSpeed s).cvt.target = s.cvt.target ∧
    (measureSpeed s).cvt.stall = s.cvt.stall ∧ (measureSpeed s).cvt.map = s.cvt.map ∧
    (measureSpeed s).cvt.entryEye = s.cvt.entryEye ∧ (measureSpeed s).cvt.exitEye = s.cvt.exitEye ∧
    (measureSpeed s).cvt.entryTracked = s.cvt.entryTracked ∧ (measureSpeed s).cvt.exitEdge = s.cvt.exitEdge ∧
    (measureSpeed s).cvt.upOffer = s.cvt.upOffer ∧ (measureSpeed s).cvt.dnAccept = s.cvt.dnAccept ∧
    (measureSpeed s).cvt.downstream = s.cvt.downstream ∧ (measureSpeed s).cvt.nextRamp = s.cvt.nextRamp := by
  unfold measureSpeed; (try dsimp only) <;> (repeat' split) <;> simp

@[simp] theorem followDownstream_keeps (s : State) :
    SameHpx s (followDownstream s) ∧ (followDownstream s).dkc = s.dkc ∧ SameCvtButDrive s (followDownstream s) ∧
    (followDownstream s).cvt.drive = s.cvt.drive ∧ (followDownstream s).cvt.reference = s.cvt.reference ∧
    (followDownstream s).cvt.target = s.cvt.target ∧ (followDownstream s).cvt.stall = s.cvt.stall ∧
    SameAmc s (followDownstream s) ∧ (followDownstream s).cta = s.cta ∧ (followDownstream s).tlk = s.tlk ∧
    (followDownstream s).flk = s.flk ∧ (followDownstream s).fxc = s.fxc ∧ (followDownstream s).phc = s.phc ∧
    (followDownstream s).ptc = s.ptc ∧ (followDownstream s).exm = s.exm ∧ (followDownstream s).xm = s.xm ∧
    (followDownstream s).free = s.free ∧ (followDownstream s).pending = s.pending := by
  unfold followDownstream; (try dsimp only) <;> (repeat' split) <;> simp

@[simp] theorem downstreamExpiry_keeps (s : State) :
    OnlyFlux s (downstreamExpiry s) := by
  unfold downstreamExpiry; (try dsimp only) <;> (repeat' split) <;> simp

@[simp] theorem putZone_keeps (z : ZoneNo) (r : Zone) (s : State) :
    OnlyZones s (putZone z r s) ∧ (putZone z r s).xm = s.xm := by
  unfold putZone; (try dsimp only) <;> (repeat' split) <;> simp

@[simp] theorem markZone_keeps (d : Option DocketNo) (s : State) :
    OnlyRecords s (markZone d s) := by
  unfold markZone; (try dsimp only) <;> (repeat' split) <;> simp

@[simp] theorem enterZone_keeps (z : ZoneNo) (st : ZoneState) (s : State) :
    OnlyZones s (enterZone z st s) := by
  unfold enterZone; (try dsimp only) <;> (repeat' split) <;> simp

@[simp] theorem judgeDeviation_keeps (s : State) :
    OnlyFlux s (judgeDeviation s) := by
  unfold judgeDeviation; (try dsimp only) <;> (repeat' split) <;> simp

@[simp] theorem judgeZoneSensor_keeps (s : State) :
    OnlyFlux s (judgeZoneSensor s) := by
  unfold judgeZoneSensor; (try dsimp only) <;> (repeat' split) <;> simp

@[simp] theorem judgeZones_keeps (s : State) :
    OnlyFlux s (judgeZones s) := by
  unfold judgeZones; (try dsimp only) <;> (repeat' split) <;> simp

@[simp] theorem zonesOnMode_keeps (old : Mode) (s : State) :
    OnlyZones s (zonesOnMode old s) := by
  unfold zonesOnMode; (try dsimp only) <;> (repeat' split) <;> simp

@[simp] theorem zoneOnSwitch_keeps (z : ZoneNo) (s : State) :
    OnlyZones s (zoneOnSwitch z s) := by
  unfold zoneOnSwitch; (try dsimp only) <;> (repeat' split) <;> simp

@[simp] theorem zonesOnSwitch_keeps (s : State) :
    OnlyZones s (zonesOnSwitch s) := by
  unfold zonesOnSwitch; (try dsimp only) <;> (repeat' split) <;> simp

@[simp] theorem judgeZoneBand_keeps (z : ZoneNo) (t : Int) (s : State) :
    OnlyZones s (judgeZoneBand z t s) := by
  unfold judgeZoneBand; (try dsimp only) <;> (repeat' split) <;> simp

@[simp] theorem controlZone_keeps (z : ZoneNo) (t : Int) (s : State) :
    OnlyZones s (controlZone z t s) ∧ (controlZone z t s).xm = s.xm := by
  unfold controlZone; (try dsimp only) <;> (repeat' split) <;> simp

@[simp] theorem judgeZoneHeat_keeps (z : ZoneNo) (t : Int) (s : State) :
    OnlyZones s (judgeZoneHeat z t s) ∧ (judgeZoneHeat z t s).xm = s.xm := by
  unfold judgeZoneHeat; (try dsimp only) <;> (repeat' split) <;> simp

@[simp] theorem zoneFaultNotice_keeps (z : ZoneNo) (detail : Nat) (s : State) :
    OnlyZones s (zoneFaultNotice z detail s) := by
  unfold zoneFaultNotice; (try dsimp only) <;> (repeat' split) <;> simp

@[simp] theorem zoneRestoreNotice_keeps (z : ZoneNo) (s : State) :
    OnlyZones s (zoneRestoreNotice z s) := by
  unfold zoneRestoreNotice; (try dsimp only) <;> (repeat' split) <;> simp

@[simp] theorem zoneSettleExpiry_keeps (z : ZoneNo) (s : State) :
    SameHpx s (zoneSettleExpiry z s) ∧ (zoneSettleExpiry z s).dkc = s.dkc ∧ (zoneSettleExpiry z s).cvt = s.cvt ∧
    SameAmc s (zoneSettleExpiry z s) ∧ (zoneSettleExpiry z s).tlk = s.tlk ∧ (zoneSettleExpiry z s).flk = s.flk ∧
    SameFluxInputs s (zoneSettleExpiry z s) ∧ (zoneSettleExpiry z s).phc.periodStart = s.phc.periodStart ∧
    (zoneSettleExpiry z s).phc.nextPeriod = s.phc.nextPeriod ∧ (zoneSettleExpiry z s).phc.pyro = s.phc.pyro ∧
    (zoneSettleExpiry z s).ptc = s.ptc ∧ (zoneSettleExpiry z s).exm = s.exm ∧ (zoneSettleExpiry z s).free = s.free ∧
    (zoneSettleExpiry z s).pending = s.pending := by
  unfold zoneSettleExpiry; (try dsimp only) <;> (repeat' split) <;> simp

@[simp] theorem zonePeriodStart_keeps (s : State) :
    (zonePeriodStart s).hpx = s.hpx ∧ (zonePeriodStart s).dkc = s.dkc ∧ (zonePeriodStart s).cvt = s.cvt ∧
    (zonePeriodStart s).amc = s.amc ∧ (zonePeriodStart s).cta = s.cta ∧ (zonePeriodStart s).tlk = s.tlk ∧
    (zonePeriodStart s).flk = s.flk ∧ (zonePeriodStart s).fxc = s.fxc ∧ (zonePeriodStart s).phc.pyro = s.phc.pyro ∧
    (zonePeriodStart s).ptc = s.ptc ∧ (zonePeriodStart s).exm = s.exm ∧ (zonePeriodStart s).xm = s.xm ∧
    (zonePeriodStart s).free = s.free ∧ (zonePeriodStart s).pending = s.pending := by
  unfold zonePeriodStart; (try dsimp only) <;> (repeat' split) <;> simp

@[simp] theorem zoneOnTimeEnd_keeps (z : ZoneNo) (s : State) :
    OnlyZones s (zoneOnTimeEnd z s) ∧ (zoneOnTimeEnd z s).xm = s.xm := by
  unfold zoneOnTimeEnd; (try dsimp only) <;> (repeat' split) <;> simp

@[simp] theorem reportBoost_keeps (d : Option DocketNo) (s : State) :
    SameHpxButParity s (reportBoost d s) ∧ (reportBoost d s).dkc = s.dkc ∧ (reportBoost d s).cvt = s.cvt ∧
    SameAmc s (reportBoost d s) ∧ (reportBoost d s).cta = s.cta ∧ (reportBoost d s).tlk = s.tlk ∧
    (reportBoost d s).flk = s.flk ∧ (reportBoost d s).fxc = s.fxc ∧ (reportBoost d s).phc = s.phc ∧
    (reportBoost d s).ptc = s.ptc ∧ (reportBoost d s).exm = s.exm ∧ (reportBoost d s).free = s.free ∧
    (reportBoost d s).pending = s.pending := by
  unfold reportBoost; (try dsimp only) <;> (repeat' split) <;> simp

@[simp] theorem zoneIn_keeps (z : ZoneNo) (board : Word) (docket : Option DocketNo) (s : State) :
    OnlyJudged s (zoneIn z board docket s) ∧ (zoneIn z board docket s).cta = s.cta ∧
    (zoneIn z board docket s).fxc = s.fxc ∧ (zoneIn z board docket s).phc.pyro = s.phc.pyro ∧
    (zoneIn z board docket s).ptc = s.ptc := by
  unfold zoneIn; (try dsimp only) <;> (repeat' split) <;> simp

@[simp] theorem zoneOut_keeps (z : ZoneNo) (board : Word) (s : State) :
    OnlyZones s (zoneOut z board s) ∧ (zoneOut z board s).xm = s.xm := by
  unfold zoneOut; (try dsimp only) <;> (repeat' split) <;> simp

@[simp] theorem emptyZones_keeps (s : State) :
    OnlyZones s (emptyZones s) ∧ (emptyZones s).xm = s.xm := by
  unfold emptyZones; (try dsimp only) <;> (repeat' split) <;> simp

@[simp] theorem placePyro_keeps (s : State) :
    OnlyClaims s (placePyro s) := by
  unfold placePyro; (try dsimp only) <;> (repeat' split) <;> simp

@[simp] theorem pyroIn_keeps (board : Word) (docket : Option DocketNo) (s : State) :
    SameHpx s (pyroIn board docket s) ∧ (pyroIn board docket s).dkc = s.dkc ∧ (pyroIn board docket s).cvt = s.cvt ∧
    (pyroIn board docket s).amc = s.amc ∧ (pyroIn board docket s).tlk = s.tlk ∧ (pyroIn board docket s).flk = s.flk
    ∧ (pyroIn board docket s).fxc = s.fxc ∧ (pyroIn board docket s).phc.zones = s.phc.zones ∧
    (pyroIn board docket s).phc.periodStart = s.phc.periodStart ∧
    (pyroIn board docket s).phc.nextPeriod = s.phc.nextPeriod ∧ (pyroIn board docket s).ptc = s.ptc ∧
    (pyroIn board docket s).exm = s.exm ∧ (pyroIn board docket s).free = s.free ∧
    (pyroIn board docket s).pending = s.pending := by
  unfold pyroIn; (try dsimp only) <;> (repeat' split) <;> simp

@[simp] theorem pyroResult_keeps (status : ResultStatus) (value : Nat) (s : State) :
    (pyroResult status value s).hpx = s.hpx ∧ (pyroResult status value s).dkc = s.dkc ∧
    (pyroResult status value s).cvt = s.cvt ∧ (pyroResult status value s).amc = s.amc ∧
    (pyroResult status value s).cta = s.cta ∧ (pyroResult status value s).tlk = s.tlk ∧
    (pyroResult status value s).flk = s.flk ∧ (pyroResult status value s).fxc = s.fxc ∧
    (pyroResult status value s).phc.zones = s.phc.zones ∧
    (pyroResult status value s).phc.periodStart = s.phc.periodStart ∧
    (pyroResult status value s).phc.nextPeriod = s.phc.nextPeriod ∧ (pyroResult status value s).ptc = s.ptc ∧
    (pyroResult status value s).exm = s.exm ∧ (pyroResult status value s).xm = s.xm ∧
    (pyroResult status value s).free = s.free ∧ (pyroResult status value s).pending = s.pending := by
  unfold pyroResult; (try dsimp only) <;> (repeat' split) <;> simp

@[simp] theorem pyroOut_keeps (board : Word) (s : State) :
    OnlyJudged s (pyroOut board s) ∧ (pyroOut board s).fxc = s.fxc ∧ (pyroOut board s).phc.zones = s.phc.zones ∧
    (pyroOut board s).ptc = s.ptc := by
  unfold pyroOut; (try dsimp only) <;> (repeat' split) <;> simp

@[simp] theorem preheatDiscard_keeps (s : State) :
    SameHpx s (preheatDiscard s) ∧ (preheatDiscard s).dkc = s.dkc ∧ (preheatDiscard s).cvt = s.cvt ∧
    (preheatDiscard s).amc = s.amc ∧ (preheatDiscard s).tlk = s.tlk ∧ (preheatDiscard s).flk = s.flk ∧
    (preheatDiscard s).fxc = s.fxc ∧ (preheatDiscard s).phc.periodStart = s.phc.periodStart ∧
    (preheatDiscard s).phc.nextPeriod = s.phc.nextPeriod ∧ (preheatDiscard s).ptc = s.ptc ∧
    (preheatDiscard s).exm = s.exm ∧ (preheatDiscard s).free = s.free ∧ (preheatDiscard s).pending = s.pending := by
  unfold preheatDiscard; (try dsimp only) <;> (repeat' split) <;> simp

@[simp] theorem pyroPlacement_keeps (s : State) :
    SameHpx s (pyroPlacement s) ∧ (pyroPlacement s).dkc = s.dkc ∧ (pyroPlacement s).cvt = s.cvt ∧
    (pyroPlacement s).amc = s.amc ∧ (pyroPlacement s).tlk = s.tlk ∧ (pyroPlacement s).flk = s.flk ∧
    (pyroPlacement s).fxc = s.fxc ∧ (pyroPlacement s).phc.zones = s.phc.zones ∧
    (pyroPlacement s).phc.periodStart = s.phc.periodStart ∧ (pyroPlacement s).phc.nextPeriod = s.phc.nextPeriod ∧
    (pyroPlacement s).ptc = s.ptc ∧ (pyroPlacement s).exm = s.exm ∧ (pyroPlacement s).free = s.free ∧
    (pyroPlacement s).pending = s.pending := by
  unfold pyroPlacement; (try dsimp only) <;> (repeat' split) <;> simp

end Sys2Proof.Machine
end

