-- ==== Sys2Proof/Laws/PotFrames.lean ====
section
/-! SUPPORT. Frames of the operations of the pot and the extraction. -/

namespace Sys2Proof.Machine

@[simp] theorem putPump_keeps (p : PumpId) (r : Pump) (s : State) :
    OnlyPtc s (putPump p r s) ∧ SamePtcButPumps s (putPump p r s) ∧ (putPump p r s).ptc.pot = s.ptc.pot ∧
    (putPump p r s).ptc.mainLeftRamping = s.ptc.mainLeftRamping ∧ (putPump p r s).ptc.feeder = s.ptc.feeder ∧
    (putPump p r s).ptc.feedTimer = s.ptc.feedTimer ∧ (putPump p r s).ptc.calibrate = s.ptc.calibrate ∧
    (putPump p r s).ptc.feed = s.ptc.feed := by
  unfold putPump; (try dsimp only) <;> (repeat' split) <;> simp

@[simp] theorem putPassages_keeps (p : PumpId) (l : List Passage) (s : State) :
    OnlyPtc s (putPassages p l s) ∧ SameLevel s (putPassages p l s) ∧ (putPassages p l s).ptc.pot = s.ptc.pot ∧
    (putPassages p l s).ptc.chip = s.ptc.chip ∧ (putPassages p l s).ptc.main = s.ptc.main ∧
    (putPassages p l s).ptc.mainLeftRamping = s.ptc.mainLeftRamping ∧ (putPassages p l s).ptc.feeder = s.ptc.feeder
    ∧ (putPassages p l s).ptc.feedTimer = s.ptc.feedTimer ∧ (putPassages p l s).ptc.calibrate = s.ptc.calibrate ∧
    (putPassages p l s).ptc.feed = s.ptc.feed := by
  unfold putPassages; (try dsimp only) <;> (repeat' split) <;> simp

@[simp] theorem putPot_keeps (r : Pot) (s : State) :
    OnlyPtc s (putPot r s) ∧ SamePtcButPumps s (putPot r s) ∧ (putPot r s).ptc.chip = s.ptc.chip ∧
    (putPot r s).ptc.main = s.ptc.main ∧ (putPot r s).ptc.mainLeftRamping = s.ptc.mainLeftRamping ∧
    (putPot r s).ptc.feeder = s.ptc.feeder ∧ (putPot r s).ptc.feedTimer = s.ptc.feedTimer ∧
    (putPot r s).ptc.calibrate = s.ptc.calibrate ∧ (putPot r s).ptc.feed = s.ptc.feed := by
  unfold putPot; (try dsimp only) <;> (repeat' split) <;> simp

@[simp] theorem calibrateStopped_keeps (s : State) :
    OnlyPtc s (calibrateStopped s) ∧ SamePtcButPumps s (calibrateStopped s) ∧
    (calibrateStopped s).ptc.pot = s.ptc.pot ∧ (calibrateStopped s).ptc.chip = s.ptc.chip ∧
    (calibrateStopped s).ptc.main = s.ptc.main ∧ (calibrateStopped s).ptc.mainLeftRamping = s.ptc.mainLeftRamping ∧
    (calibrateStopped s).ptc.feeder = s.ptc.feeder ∧ (calibrateStopped s).ptc.feedTimer = s.ptc.feedTimer ∧
    (calibrateStopped s).ptc.feed = s.ptc.feed := by
  unfold calibrateStopped; (try dsimp only) <;> (repeat' split) <;> simp

@[simp] theorem judgePumps_keeps (p : PumpId) (s : State) :
    OnlyFlux s (judgePumps p s) := by
  unfold judgePumps; (try dsimp only) <;> (repeat' split) <;> simp

@[simp] theorem judgeBothPumps_keeps (s : State) :
    OnlyFlux s (judgeBothPumps s) := by
  unfold judgeBothPumps; (try dsimp only) <;> (repeat' split) <;> simp

@[simp] theorem markPassages_keeps (p : PumpId) (s : State) :
    OnlyRecords s (markPassages p s) := by
  unfold markPassages; (try dsimp only) <;> (repeat' split) <;> simp

@[simp] theorem pumpLeft_keeps (p : PumpId) (old : DriveState) (s : State) :
    OnlyPot s (pumpLeft p old s) ∧ (pumpLeft p old s).ptc.pot = s.ptc.pot ∧
    (pumpLeft p old s).ptc.chip = s.ptc.chip ∧ (pumpLeft p old s).ptc.main = s.ptc.main ∧
    (pumpLeft p old s).ptc.feeder = s.ptc.feeder ∧ (pumpLeft p old s).ptc.feedTimer = s.ptc.feedTimer ∧
    (pumpLeft p old s).ptc.calibrate = s.ptc.calibrate ∧ (pumpLeft p old s).ptc.feed = s.ptc.feed ∧
    (pumpLeft p old s).amc = s.amc ∧ (pumpLeft p old s).cta = s.cta ∧ (pumpLeft p old s).fxc = s.fxc ∧
    (pumpLeft p old s).hpx = s.hpx ∧ (pumpLeft p old s).free = s.free := by
  unfold pumpLeft; (try dsimp only) <;> (repeat' split) <;> simp

@[simp] theorem pumpMoved_keeps (p : PumpId) (old : DriveState) (s : State) :
    OnlyPot s (pumpMoved p old s) ∧ (pumpMoved p old s).ptc.pot = s.ptc.pot ∧
    (pumpMoved p old s).ptc.chip = s.ptc.chip ∧ (pumpMoved p old s).ptc.main = s.ptc.main ∧
    (pumpMoved p old s).ptc.feeder = s.ptc.feeder ∧ (pumpMoved p old s).ptc.feedTimer = s.ptc.feedTimer ∧
    (pumpMoved p old s).ptc.feed = s.ptc.feed ∧ (pumpMoved p old s).free = s.free := by
  unfold pumpMoved; (try dsimp only) <;> (repeat' split) <;> simp

@[simp] theorem changePump_keeps (p : PumpId) (r : Pump) (s : State) :
    OnlyPot s (changePump p r s) ∧ (changePump p r s).ptc.pot = s.ptc.pot ∧
    (changePump p r s).ptc.feeder = s.ptc.feeder ∧ (changePump p r s).ptc.feedTimer = s.ptc.feedTimer ∧
    (changePump p r s).ptc.feed = s.ptc.feed ∧ (changePump p r s).free = s.free := by
  unfold changePump; (try dsimp only) <;> (repeat' split) <;> simp

@[simp] theorem takeCommand_keeps (p : PumpId) (c : Nat) (s : State) :
    OnlyPot s (takeCommand p c s) ∧ (takeCommand p c s).ptc.pot = s.ptc.pot ∧
    (takeCommand p c s).ptc.feeder = s.ptc.feeder ∧ (takeCommand p c s).ptc.feedTimer = s.ptc.feedTimer ∧
    (takeCommand p c s).ptc.calibrate = s.ptc.calibrate ∧ (takeCommand p c s).ptc.feed = s.ptc.feed ∧
    (takeCommand p c s).amc = s.amc ∧ (takeCommand p c s).cta = s.cta ∧ (takeCommand p c s).fxc = s.fxc ∧
    (takeCommand p c s).hpx = s.hpx ∧ (takeCommand p c s).free = s.free := by
  unfold takeCommand; (try dsimp only) <;> (repeat' split) <;> simp

@[simp] theorem followCommand_keeps (p : PumpId) (s : State) :
    OnlyPot s (followCommand p s) ∧ (followCommand p s).ptc.pot = s.ptc.pot ∧
    (followCommand p s).ptc.feeder = s.ptc.feeder ∧ (followCommand p s).ptc.feedTimer = s.ptc.feedTimer ∧
    (followCommand p s).ptc.feed = s.ptc.feed ∧ (followCommand p s).free = s.free := by
  unfold followCommand; (try dsimp only) <;> (repeat' split) <;> simp

@[simp] theorem followCommands_keeps (s : State) :
    OnlyPot s (followCommands s) ∧ (followCommands s).ptc.pot = s.ptc.pot ∧
    (followCommands s).ptc.feeder = s.ptc.feeder ∧ (followCommands s).ptc.feedTimer = s.ptc.feedTimer ∧
    (followCommands s).ptc.feed = s.ptc.feed ∧ (followCommands s).free = s.free := by
  unfold followCommands; (try dsimp only) <;> (repeat' split) <;> simp

@[simp] theorem judgeFeeder_keeps (s : State) :
    OnlyPtc s (judgeFeeder s) ∧ SamePtcButPumps s (judgeFeeder s) ∧ (judgeFeeder s).ptc.pot = s.ptc.pot ∧
    (judgeFeeder s).ptc.chip = s.ptc.chip ∧ (judgeFeeder s).ptc.main = s.ptc.main ∧
    (judgeFeeder s).ptc.mainLeftRamping = s.ptc.mainLeftRamping ∧ (judgeFeeder s).ptc.feedTimer = s.ptc.feedTimer ∧
    (judgeFeeder s).ptc.calibrate = s.ptc.calibrate ∧ (judgeFeeder s).ptc.feed = s.ptc.feed := by
  unfold judgeFeeder; (try dsimp only) <;> (repeat' split) <;> simp

@[simp] theorem resetFeedTimer_keeps (s : State) :
    OnlyPtc s (resetFeedTimer s) ∧ SamePtcButPumps s (resetFeedTimer s) ∧ (resetFeedTimer s).ptc.pot = s.ptc.pot ∧
    (resetFeedTimer s).ptc.chip = s.ptc.chip ∧ (resetFeedTimer s).ptc.main = s.ptc.main ∧
    (resetFeedTimer s).ptc.mainLeftRamping = s.ptc.mainLeftRamping ∧ (resetFeedTimer s).ptc.feeder = s.ptc.feeder ∧
    (resetFeedTimer s).ptc.calibrate = s.ptc.calibrate ∧ (resetFeedTimer s).ptc.feed = s.ptc.feed := by
  unfold resetFeedTimer; (try dsimp only) <;> (repeat' split) <;> simp

@[simp] theorem clearBlocked_keeps (s : State) :
    OnlyPtc s (clearBlocked s) ∧ SamePtcButPumps s (clearBlocked s) ∧ (clearBlocked s).ptc.pot = s.ptc.pot ∧
    (clearBlocked s).ptc.chip = s.ptc.chip ∧ (clearBlocked s).ptc.main = s.ptc.main ∧
    (clearBlocked s).ptc.mainLeftRamping = s.ptc.mainLeftRamping ∧ (clearBlocked s).ptc.calibrate = s.ptc.calibrate
    ∧ (clearBlocked s).ptc.feed = s.ptc.feed := by
  unfold clearBlocked; (try dsimp only) <;> (repeat' split) <;> simp

@[simp] theorem endFeed_keeps (result : RequestResult) (cause : Half) (s : State) :
    SameHpx s (endFeed result cause s) ∧ (endFeed result cause s).dkc = s.dkc ∧ (endFeed result cause s).cvt = s.cvt
    ∧ (endFeed result cause s).amc = s.amc ∧ (endFeed result cause s).cta = s.cta ∧
    (endFeed result cause s).tlk = s.tlk ∧ (endFeed result cause s).flk = s.flk ∧
    (endFeed result cause s).fxc = s.fxc ∧ (endFeed result cause s).phc = s.phc ∧
    SamePtcButPumps s (endFeed result cause s) ∧ (endFeed result cause s).ptc.pot = s.ptc.pot ∧
    (endFeed result cause s).ptc.chip = s.ptc.chip ∧ (endFeed result cause s).ptc.main = s.ptc.main ∧
    (endFeed result cause s).ptc.mainLeftRamping = s.ptc.mainLeftRamping ∧
    (endFeed result cause s).ptc.calibrate = s.ptc.calibrate ∧ (endFeed result cause s).exm = s.exm ∧
    (endFeed result cause s).free = s.free ∧ (endFeed result cause s).pending = s.pending := by
  unfold endFeed; (try dsimp only) <;> (repeat' split) <;> simp

@[simp] theorem followFeed_keeps (s : State) :
    SameHpx s (followFeed s) ∧ (followFeed s).dkc = s.dkc ∧ (followFeed s).cvt = s.cvt ∧ (followFeed s).amc = s.amc
    ∧ (followFeed s).cta = s.cta ∧ (followFeed s).tlk = s.tlk ∧ (followFeed s).flk = s.flk ∧
    (followFeed s).fxc = s.fxc ∧ (followFeed s).phc = s.phc ∧ SamePtcButPumps s (followFeed s) ∧
    (followFeed s).ptc.pot = s.ptc.pot ∧ (followFeed s).ptc.chip = s.ptc.chip ∧ (followFeed s).ptc.main = s.ptc.main
    ∧ (followFeed s).ptc.mainLeftRamping = s.ptc.mainLeftRamping ∧ (followFeed s).ptc.calibrate = s.ptc.calibrate ∧
    (followFeed s).exm = s.exm ∧ (followFeed s).free = s.free ∧ (followFeed s).pending = s.pending := by
  unfold followFeed; (try dsimp only) <;> (repeat' split) <;> simp

@[simp] theorem judgeLevelAlarms_keeps (s : State) :
    OnlyFlux s (judgeLevelAlarms s) := by
  unfold judgeLevelAlarms; (try dsimp only) <;> (repeat' split) <;> simp

@[simp] theorem levelChanged_keeps (s : State) :
    SameHpx s (levelChanged s) ∧ (levelChanged s).dkc = s.dkc ∧ (levelChanged s).cvt = s.cvt ∧
    SameAmc s (levelChanged s) ∧ (levelChanged s).tlk = s.tlk ∧ (levelChanged s).flk = s.flk ∧
    SameFluxInputs s (levelChanged s) ∧ (levelChanged s).phc = s.phc ∧ (levelChanged s).ptc.pot = s.ptc.pot ∧
    (levelChanged s).ptc.chip = s.ptc.chip ∧ (levelChanged s).ptc.main = s.ptc.main ∧
    (levelChanged s).ptc.chipList = s.ptc.chipList ∧ (levelChanged s).ptc.mainList = s.ptc.mainList ∧
    (levelChanged s).ptc.mainLeftRamping = s.ptc.mainLeftRamping ∧ (levelChanged s).ptc.distances = s.ptc.distances
    ∧ (levelChanged s).ptc.echoFailures = s.ptc.echoFailures ∧ (levelChanged s).ptc.echoLost = s.ptc.echoLost ∧
    (levelChanged s).ptc.workingRef = s.ptc.workingRef ∧ (levelChanged s).ptc.calibrate = s.ptc.calibrate ∧
    (levelChanged s).ptc.potPeriodStart = s.ptc.potPeriodStart ∧
    (levelChanged s).ptc.nextPotPeriod = s.ptc.nextPotPeriod ∧ (levelChanged s).ptc.nextRamp = s.ptc.nextRamp ∧
    (levelChanged s).ptc.nextEcho = s.ptc.nextEcho ∧ (levelChanged s).exm = s.exm ∧ (levelChanged s).free = s.free ∧
    (levelChanged s).pending = s.pending := by
  unfold levelChanged; (try dsimp only) <;> (repeat' split) <;> simp

@[simp] theorem judgePotReady_keeps (s : State) :
    SameHpx s (judgePotReady s) ∧ (judgePotReady s).dkc = s.dkc ∧ (judgePotReady s).cvt = s.cvt ∧
    SameAmc s (judgePotReady s) ∧ (judgePotReady s).tlk = s.tlk ∧ (judgePotReady s).flk = s.flk ∧
    SameFluxInputs s (judgePotReady s) ∧ (judgePotReady s).phc = s.phc ∧ (judgePotReady s).ptc = s.ptc ∧
    (judgePotReady s).exm = s.exm ∧ (judgePotReady s).pending = s.pending := by
  unfold judgePotReady; (try dsimp only) <;> (repeat' split) <;> simp

@[simp] theorem potFollowed_keeps (s : State) :
    OnlyPot s (potFollowed s) ∧ (potFollowed s).ptc.pot = s.ptc.pot := by
  unfold potFollowed; (try dsimp only) <;> (repeat' split) <;> simp

@[simp] theorem enterPot_keeps (st : PotState) (s : State) :
    OnlyPot s (enterPot st s) := by
  unfold enterPot; (try dsimp only) <;> (repeat' split) <;> simp

@[simp] theorem potOnMode_keeps (old : Mode) (s : State) :
    OnlyPot s (potOnMode old s) := by
  unfold potOnMode; (try dsimp only) <;> (repeat' split) <;> simp

@[simp] theorem potOnSwitch_keeps (s : State) :
    OnlyPot s (potOnSwitch s) := by
  unfold potOnSwitch; (try dsimp only) <;> (repeat' split) <;> simp

@[simp] theorem controlPot_keeps (a : Int) (s : State) :
    OnlyPtc s (controlPot a s) ∧ SamePtcButPumps s (controlPot a s) ∧ (controlPot a s).ptc.chip = s.ptc.chip ∧
    (controlPot a s).ptc.main = s.ptc.main ∧ (controlPot a s).ptc.mainLeftRamping = s.ptc.mainLeftRamping ∧
    (controlPot a s).ptc.feeder = s.ptc.feeder ∧ (controlPot a s).ptc.feedTimer = s.ptc.feedTimer ∧
    (controlPot a s).ptc.calibrate = s.ptc.calibrate ∧ (controlPot a s).ptc.feed = s.ptc.feed := by
  unfold controlPot; (try dsimp only) <;> (repeat' split) <;> simp

@[simp] theorem meltCheck_keeps (s : State) :
    OnlyPot s (meltCheck s) := by
  unfold meltCheck; (try dsimp only) <;> (repeat' split) <;> simp

@[simp] theorem potBandCheck_keeps (a : Int) (s : State) :
    OnlyPot s (potBandCheck a s) := by
  unfold potBandCheck; (try dsimp only) <;> (repeat' split) <;> simp

@[simp] theorem potSettleExpiry_keeps (s : State) :
    OnlyPot s (potSettleExpiry s) := by
  unfold potSettleExpiry; (try dsimp only) <;> (repeat' split) <;> simp

@[simp] theorem potPeriodStart_keeps (s : State) :
    OnlyPtc s (potPeriodStart s) ∧ (potPeriodStart s).ptc.chip = s.ptc.chip ∧
    (potPeriodStart s).ptc.main = s.ptc.main ∧ (potPeriodStart s).ptc.chipList = s.ptc.chipList ∧
    (potPeriodStart s).ptc.mainList = s.ptc.mainList ∧
    (potPeriodStart s).ptc.mainLeftRamping = s.ptc.mainLeftRamping ∧
    (potPeriodStart s).ptc.distances = s.ptc.distances ∧ (potPeriodStart s).ptc.echoFailures = s.ptc.echoFailures ∧
    (potPeriodStart s).ptc.echoLost = s.ptc.echoLost ∧ (potPeriodStart s).ptc.levelState = s.ptc.levelState ∧
    (potPeriodStart s).ptc.workingRef = s.ptc.workingRef ∧ (potPeriodStart s).ptc.feeder = s.ptc.feeder ∧
    (potPeriodStart s).ptc.feedTimer = s.ptc.feedTimer ∧ (potPeriodStart s).ptc.calibrate = s.ptc.calibrate ∧
    (potPeriodStart s).ptc.feed = s.ptc.feed ∧ (potPeriodStart s).ptc.nextRamp = s.ptc.nextRamp ∧
    (potPeriodStart s).ptc.nextEcho = s.ptc.nextEcho := by
  unfold potPeriodStart; (try dsimp only) <;> (repeat' split) <;> simp

@[simp] theorem potOnTimeEnd_keeps (s : State) :
    OnlyPtc s (potOnTimeEnd s) ∧ SamePtcButPumps s (potOnTimeEnd s) ∧ (potOnTimeEnd s).ptc.chip = s.ptc.chip ∧
    (potOnTimeEnd s).ptc.main = s.ptc.main ∧ (potOnTimeEnd s).ptc.mainLeftRamping = s.ptc.mainLeftRamping ∧
    (potOnTimeEnd s).ptc.feeder = s.ptc.feeder ∧ (potOnTimeEnd s).ptc.feedTimer = s.ptc.feedTimer ∧
    (potOnTimeEnd s).ptc.calibrate = s.ptc.calibrate ∧ (potOnTimeEnd s).ptc.feed = s.ptc.feed := by
  unfold potOnTimeEnd; (try dsimp only) <;> (repeat' split) <;> simp

@[simp] theorem rampPump_keeps (p : PumpId) (s : State) :
    OnlyPot s (rampPump p s) ∧ (rampPump p s).ptc.pot = s.ptc.pot ∧ (rampPump p s).ptc.feeder = s.ptc.feeder ∧
    (rampPump p s).ptc.feedTimer = s.ptc.feedTimer ∧ (rampPump p s).ptc.feed = s.ptc.feed ∧
    (rampPump p s).free = s.free := by
  unfold rampPump; (try dsimp only) <;> (repeat' split) <;> simp

@[simp] theorem pumpRamp_keeps (s : State) :
    SameHpx s (pumpRamp s) ∧ (pumpRamp s).dkc = s.dkc ∧ (pumpRamp s).cvt = s.cvt ∧ SameAmc s (pumpRamp s) ∧
    (pumpRamp s).tlk = s.tlk ∧ (pumpRamp s).flk = s.flk ∧ SameFluxInputs s (pumpRamp s) ∧ (pumpRamp s).phc = s.phc ∧
    (pumpRamp s).ptc.pot = s.ptc.pot ∧ (pumpRamp s).ptc.chipList = s.ptc.chipList ∧
    (pumpRamp s).ptc.mainList = s.ptc.mainList ∧ (pumpRamp s).ptc.distances = s.ptc.distances ∧
    (pumpRamp s).ptc.echoFailures = s.ptc.echoFailures ∧ (pumpRamp s).ptc.echoLost = s.ptc.echoLost ∧
    (pumpRamp s).ptc.levelState = s.ptc.levelState ∧ (pumpRamp s).ptc.workingRef = s.ptc.workingRef ∧
    (pumpRamp s).ptc.feeder = s.ptc.feeder ∧ (pumpRamp s).ptc.feedTimer = s.ptc.feedTimer ∧
    (pumpRamp s).ptc.feed = s.ptc.feed ∧ (pumpRamp s).ptc.potPeriodStart = s.ptc.potPeriodStart ∧
    (pumpRamp s).ptc.nextPotPeriod = s.ptc.nextPotPeriod ∧ (pumpRamp s).ptc.nextEcho = s.ptc.nextEcho ∧
    (pumpRamp s).exm = s.exm ∧ (pumpRamp s).free = s.free ∧ (pumpRamp s).pending = s.pending := by
  unfold pumpRamp; (try dsimp only) <;> (repeat' split) <;> simp

@[simp] theorem pumpOk_keeps (p : PumpId) (value gateOpened : Nat) (s : State) :
    SameHpx s (pumpOk p value gateOpened s) ∧ (pumpOk p value gateOpened s).dkc = s.dkc ∧
    (pumpOk p value gateOpened s).cvt = s.cvt ∧ SameAmc s (pumpOk p value gateOpened s) ∧
    (pumpOk p value gateOpened s).tlk = s.tlk ∧ (pumpOk p value gateOpened s).flk = s.flk ∧
    SameFluxInputs s (pumpOk p value gateOpened s) ∧ (pumpOk p value gateOpened s).phc = s.phc ∧
    SameLevel s (pumpOk p value gateOpened s) ∧ (pumpOk p value gateOpened s).ptc.pot = s.ptc.pot ∧
    (pumpOk p value gateOpened s).ptc.feeder = s.ptc.feeder ∧
    (pumpOk p value gateOpened s).ptc.feedTimer = s.ptc.feedTimer ∧
    (pumpOk p value gateOpened s).ptc.feed = s.ptc.feed ∧ (pumpOk p value gateOpened s).exm = s.exm ∧
    (pumpOk p value gateOpened s).pending = s.pending := by
  unfold pumpOk; (try dsimp only) <;> (repeat' split) <;> simp

@[simp] theorem pumpResult_keeps (p : PumpId) (status : ResultStatus) (value gateOpened : Nat) (s : State) :
    SameHpx s (pumpResult p status value gateOpened s) ∧ (pumpResult p status value gateOpened s).dkc = s.dkc ∧
    (pumpResult p status value gateOpened s).cvt = s.cvt ∧ SameAmc s (pumpResult p status value gateOpened s) ∧
    (pumpResult p status value gateOpened s).tlk = s.tlk ∧ (pumpResult p status value gateOpened s).flk = s.flk ∧
    SameFluxInputs s (pumpResult p status value gateOpened s) ∧ (pumpResult p status value gateOpened s).phc = s.phc
    ∧ SameLevel s (pumpResult p status value gateOpened s) ∧
    (pumpResult p status value gateOpened s).ptc.pot = s.ptc.pot ∧
    (pumpResult p status value gateOpened s).ptc.feeder = s.ptc.feeder ∧
    (pumpResult p status value gateOpened s).ptc.feedTimer = s.ptc.feedTimer ∧
    (pumpResult p status value gateOpened s).ptc.feed = s.ptc.feed ∧
    (pumpResult p status value gateOpened s).exm = s.exm ∧
    (pumpResult p status value gateOpened s).pending = s.pending := by
  unfold pumpResult; (try dsimp only) <;> (repeat' split) <;> simp

@[simp] theorem pumpStale_keeps (p : PumpId) (s : State) :
    OnlyPtc s (pumpStale p s) ∧ SamePtcButPumps s (pumpStale p s) ∧ (pumpStale p s).ptc.pot = s.ptc.pot ∧
    (pumpStale p s).ptc.mainLeftRamping = s.ptc.mainLeftRamping ∧ (pumpStale p s).ptc.feeder = s.ptc.feeder ∧
    (pumpStale p s).ptc.feedTimer = s.ptc.feedTimer ∧ (pumpStale p s).ptc.calibrate = s.ptc.calibrate ∧
    (pumpStale p s).ptc.feed = s.ptc.feed := by
  unfold pumpStale; (try dsimp only) <;> (repeat' split) <;> simp

@[simp] theorem joinPassage_keeps (p : PumpId) (board : Word) (d : DocketNo) (s : State) :
    OnlyPtc s (joinPassage p board d s) ∧ SameLevel s (joinPassage p board d s) ∧
    (joinPassage p board d s).ptc.pot = s.ptc.pot ∧ (joinPassage p board d s).ptc.chip = s.ptc.chip ∧
    (joinPassage p board d s).ptc.main = s.ptc.main ∧
    (joinPassage p board d s).ptc.mainLeftRamping = s.ptc.mainLeftRamping ∧
    (joinPassage p board d s).ptc.feeder = s.ptc.feeder ∧ (joinPassage p board d s).ptc.feedTimer = s.ptc.feedTimer
    ∧ (joinPassage p board d s).ptc.calibrate = s.ptc.calibrate ∧ (joinPassage p board d s).ptc.feed = s.ptc.feed := by
  unfold joinPassage; (try dsimp only) <;> (repeat' split) <;> simp

@[simp] theorem markPump_keeps (p : PumpId) (d : DocketNo) (s : State) :
    OnlyRecords s (markPump p d s) := by
  unfold markPump; (try dsimp only) <;> (repeat' split) <;> simp

@[simp] theorem mainIn_keeps (board : Word) (docket : Option DocketNo) (s : State) :
    (mainIn board docket s).hpx = s.hpx ∧ (mainIn board docket s).dkc = s.dkc ∧ (mainIn board docket s).cvt = s.cvt
    ∧ (mainIn board docket s).amc = s.amc ∧ (mainIn board docket s).cta = s.cta ∧
    (mainIn board docket s).tlk = s.tlk ∧ (mainIn board docket s).flk = s.flk ∧ (mainIn board docket s).fxc = s.fxc
    ∧ (mainIn board docket s).phc = s.phc ∧ SameLevel s (mainIn board docket s) ∧
    (mainIn board docket s).ptc.pot = s.ptc.pot ∧ (mainIn board docket s).ptc.chip = s.ptc.chip ∧
    (mainIn board docket s).ptc.main = s.ptc.main ∧
    (mainIn board docket s).ptc.mainLeftRamping = s.ptc.mainLeftRamping ∧
    (mainIn board docket s).ptc.feeder = s.ptc.feeder ∧ (mainIn board docket s).ptc.feedTimer = s.ptc.feedTimer ∧
    (mainIn board docket s).ptc.calibrate = s.ptc.calibrate ∧ (mainIn board docket s).ptc.feed = s.ptc.feed ∧
    (mainIn board docket s).exm = s.exm ∧ (mainIn board docket s).free = s.free ∧
    (mainIn board docket s).pending = s.pending := by
  unfold mainIn; (try dsimp only) <;> (repeat' split) <;> simp

@[simp] theorem chipIn_keeps (board : Word) (docket : Option DocketNo) (s : State) :
    SameHpxButParity s (chipIn board docket s) ∧ (chipIn board docket s).dkc = s.dkc ∧
    (chipIn board docket s).cvt = s.cvt ∧ SameAmc s (chipIn board docket s) ∧ (chipIn board docket s).cta = s.cta ∧
    (chipIn board docket s).tlk = s.tlk ∧ (chipIn board docket s).flk = s.flk ∧ (chipIn board docket s).fxc = s.fxc
    ∧ (chipIn board docket s).phc = s.phc ∧ SameLevel s (chipIn board docket s) ∧
    (chipIn board docket s).ptc.pot = s.ptc.pot ∧ (chipIn board docket s).ptc.chip = s.ptc.chip ∧
    (chipIn board docket s).ptc.main = s.ptc.main ∧
    (chipIn board docket s).ptc.mainLeftRamping = s.ptc.mainLeftRamping ∧
    (chipIn board docket s).ptc.feeder = s.ptc.feeder ∧ (chipIn board docket s).ptc.feedTimer = s.ptc.feedTimer ∧
    (chipIn board docket s).ptc.calibrate = s.ptc.calibrate ∧ (chipIn board docket s).ptc.feed = s.ptc.feed ∧
    (chipIn board docket s).exm = s.exm ∧ (chipIn board docket s).free = s.free ∧
    (chipIn board docket s).pending = s.pending := by
  unfold chipIn; (try dsimp only) <;> (repeat' split) <;> simp

@[simp] theorem mainCross_keeps (board : Word) (s : State) :
    SameHpxButParity s (mainCross board s) ∧ (mainCross board s).dkc = s.dkc ∧ (mainCross board s).cvt = s.cvt ∧
    SameAmc s (mainCross board s) ∧ (mainCross board s).cta = s.cta ∧ (mainCross board s).tlk = s.tlk ∧
    (mainCross board s).flk = s.flk ∧ (mainCross board s).fxc = s.fxc ∧ (mainCross board s).phc = s.phc ∧
    (mainCross board s).ptc = s.ptc ∧ (mainCross board s).exm = s.exm ∧ (mainCross board s).free = s.free ∧
    (mainCross board s).pending = s.pending := by
  unfold mainCross; (try dsimp only) <;> (repeat' split) <;> simp

@[simp] theorem waveOut_keeps (p : PumpId) (off : Nat) (board : Word) (s : State) :
    (waveOut p off board s).hpx = s.hpx ∧ (waveOut p off board s).dkc = s.dkc ∧ (waveOut p off board s).cvt = s.cvt
    ∧ (waveOut p off board s).amc = s.amc ∧ (waveOut p off board s).cta = s.cta ∧
    (waveOut p off board s).tlk = s.tlk ∧ (waveOut p off board s).flk = s.flk ∧ (waveOut p off board s).fxc = s.fxc
    ∧ (waveOut p off board s).phc = s.phc ∧ SameLevel s (waveOut p off board s) ∧
    (waveOut p off board s).ptc.pot = s.ptc.pot ∧ (waveOut p off board s).ptc.chip = s.ptc.chip ∧
    (waveOut p off board s).ptc.main = s.ptc.main ∧
    (waveOut p off board s).ptc.mainLeftRamping = s.ptc.mainLeftRamping ∧
    (waveOut p off board s).ptc.feeder = s.ptc.feeder ∧ (waveOut p off board s).ptc.feedTimer = s.ptc.feedTimer ∧
    (waveOut p off board s).ptc.calibrate = s.ptc.calibrate ∧ (waveOut p off board s).ptc.feed = s.ptc.feed ∧
    (waveOut p off board s).exm = s.exm ∧ (waveOut p off board s).free = s.free ∧
    (waveOut p off board s).pending = s.pending := by
  unfold waveOut; (try dsimp only) <;> (repeat' split) <;> simp

@[simp] theorem chipOut_keeps (board : Word) (s : State) :
    (chipOut board s).hpx = s.hpx ∧ (chipOut board s).dkc = s.dkc ∧ (chipOut board s).cvt = s.cvt ∧
    (chipOut board s).amc = s.amc ∧ (chipOut board s).cta = s.cta ∧ (chipOut board s).tlk = s.tlk ∧
    (chipOut board s).flk = s.flk ∧ (chipOut board s).fxc = s.fxc ∧ (chipOut board s).phc = s.phc ∧
    SameLevel s (chipOut board s) ∧ (chipOut board s).ptc.pot = s.ptc.pot ∧ (chipOut board s).ptc.chip = s.ptc.chip
    ∧ (chipOut board s).ptc.main = s.ptc.main ∧ (chipOut board s).ptc.mainLeftRamping = s.ptc.mainLeftRamping ∧
    (chipOut board s).ptc.feeder = s.ptc.feeder ∧ (chipOut board s).ptc.feedTimer = s.ptc.feedTimer ∧
    (chipOut board s).ptc.calibrate = s.ptc.calibrate ∧ (chipOut board s).ptc.feed = s.ptc.feed ∧
    (chipOut board s).exm = s.exm ∧ (chipOut board s).free = s.free ∧ (chipOut board s).pending = s.pending := by
  unfold chipOut; (try dsimp only) <;> (repeat' split) <;> simp

@[simp] theorem mainOut_keeps (board : Word) (s : State) :
    (mainOut board s).hpx = s.hpx ∧ (mainOut board s).dkc = s.dkc ∧ (mainOut board s).cvt = s.cvt ∧
    (mainOut board s).amc = s.amc ∧ (mainOut board s).cta = s.cta ∧ (mainOut board s).tlk = s.tlk ∧
    (mainOut board s).flk = s.flk ∧ (mainOut board s).fxc = s.fxc ∧ (mainOut board s).phc = s.phc ∧
    SameLevel s (mainOut board s) ∧ (mainOut board s).ptc.pot = s.ptc.pot ∧ (mainOut board s).ptc.chip = s.ptc.chip
    ∧ (mainOut board s).ptc.main = s.ptc.main ∧ (mainOut board s).ptc.mainLeftRamping = s.ptc.mainLeftRamping ∧
    (mainOut board s).ptc.feeder = s.ptc.feeder ∧ (mainOut board s).ptc.feedTimer = s.ptc.feedTimer ∧
    (mainOut board s).ptc.calibrate = s.ptc.calibrate ∧ (mainOut board s).ptc.feed = s.ptc.feed ∧
    (mainOut board s).exm = s.exm ∧ (mainOut board s).free = s.free ∧ (mainOut board s).pending = s.pending := by
  unfold mainOut; (try dsimp only) <;> (repeat' split) <;> simp

@[simp] theorem potDiscard_keeps (s : State) :
    OnlyPtc s (potDiscard s) ∧ SameLevel s (potDiscard s) ∧ (potDiscard s).ptc.pot = s.ptc.pot ∧
    (potDiscard s).ptc.chip = s.ptc.chip ∧ (potDiscard s).ptc.main = s.ptc.main ∧
    (potDiscard s).ptc.mainLeftRamping = s.ptc.mainLeftRamping ∧ (potDiscard s).ptc.feeder = s.ptc.feeder ∧
    (potDiscard s).ptc.feedTimer = s.ptc.feedTimer ∧ (potDiscard s).ptc.calibrate = s.ptc.calibrate ∧
    (potDiscard s).ptc.feed = s.ptc.feed := by
  unfold potDiscard; (try dsimp only) <;> (repeat' split) <;> simp

@[simp] theorem endCalibrate_keeps (cell : CellNo) (result : RequestResult) (s : State) :
    OnlyPot s (endCalibrate cell result s) ∧ (endCalibrate cell result s).ptc.pot = s.ptc.pot ∧
    (endCalibrate cell result s).ptc.feedTimer = s.ptc.feedTimer ∧
    (endCalibrate cell result s).ptc.feed = s.ptc.feed ∧ (endCalibrate cell result s).free = s.free := by
  unfold endCalibrate; (try dsimp only) <;> (repeat' split) <;> simp

@[simp] theorem abortCalibrate_keeps (result : RequestResult) (s : State) :
    OnlyPot s (abortCalibrate result s) ∧ (abortCalibrate result s).ptc.pot = s.ptc.pot ∧
    (abortCalibrate result s).ptc.feedTimer = s.ptc.feedTimer ∧ (abortCalibrate result s).ptc.feed = s.ptc.feed ∧
    (abortCalibrate result s).free = s.free := by
  unfold abortCalibrate; (try dsimp only) <;> (repeat' split) <;> simp

@[simp] theorem completeCalibrate_keeps (cell : CellNo) (sum failures : Nat) (s : State) :
    SameHpx s (completeCalibrate cell sum failures s) ∧ (completeCalibrate cell sum failures s).dkc = s.dkc ∧
    (completeCalibrate cell sum failures s).cvt = s.cvt ∧ SameAmc s (completeCalibrate cell sum failures s) ∧
    (completeCalibrate cell sum failures s).tlk = s.tlk ∧ (completeCalibrate cell sum failures s).flk = s.flk ∧
    SameFluxInputs s (completeCalibrate cell sum failures s) ∧ (completeCalibrate cell sum failures s).phc = s.phc ∧
    (completeCalibrate cell sum failures s).ptc.pot = s.ptc.pot ∧
    (completeCalibrate cell sum failures s).ptc.chipList = s.ptc.chipList ∧
    (completeCalibrate cell sum failures s).ptc.mainList = s.ptc.mainList ∧
    (completeCalibrate cell sum failures s).ptc.distances = s.ptc.distances ∧
    (completeCalibrate cell sum failures s).ptc.echoFailures = s.ptc.echoFailures ∧
    (completeCalibrate cell sum failures s).ptc.echoLost = s.ptc.echoLost ∧
    (completeCalibrate cell sum failures s).ptc.potPeriodStart = s.ptc.potPeriodStart ∧
    (completeCalibrate cell sum failures s).ptc.nextPotPeriod = s.ptc.nextPotPeriod ∧
    (completeCalibrate cell sum failures s).ptc.nextRamp = s.ptc.nextRamp ∧
    (completeCalibrate cell sum failures s).ptc.nextEcho = s.ptc.nextEcho ∧
    (completeCalibrate cell sum failures s).exm = s.exm ∧ (completeCalibrate cell sum failures s).free = s.free ∧
    (completeCalibrate cell sum failures s).pending = s.pending := by
  unfold completeCalibrate; (try dsimp only) <;> (repeat' split) <;> simp

@[simp] theorem calibrateSample_keeps (distance : Option Nat) (s : State) :
    SameHpx s (calibrateSample distance s) ∧ (calibrateSample distance s).dkc = s.dkc ∧
    (calibrateSample distance s).cvt = s.cvt ∧ SameAmc s (calibrateSample distance s) ∧
    (calibrateSample distance s).tlk = s.tlk ∧ (calibrateSample distance s).flk = s.flk ∧
    SameFluxInputs s (calibrateSample distance s) ∧ (calibrateSample distance s).phc = s.phc ∧
    (calibrateSample distance s).ptc.pot = s.ptc.pot ∧ (calibrateSample distance s).ptc.chipList = s.ptc.chipList ∧
    (calibrateSample distance s).ptc.mainList = s.ptc.mainList ∧
    (calibrateSample distance s).ptc.distances = s.ptc.distances ∧
    (calibrateSample distance s).ptc.echoFailures = s.ptc.echoFailures ∧
    (calibrateSample distance s).ptc.echoLost = s.ptc.echoLost ∧
    (calibrateSample distance s).ptc.potPeriodStart = s.ptc.potPeriodStart ∧
    (calibrateSample distance s).ptc.nextPotPeriod = s.ptc.nextPotPeriod ∧
    (calibrateSample distance s).ptc.nextRamp = s.ptc.nextRamp ∧
    (calibrateSample distance s).ptc.nextEcho = s.ptc.nextEcho ∧ (calibrateSample distance s).exm = s.exm ∧
    (calibrateSample distance s).free = s.free ∧ (calibrateSample distance s).pending = s.pending := by
  unfold calibrateSample; (try dsimp only) <;> (repeat' split) <;> simp

@[simp] theorem echoFailed_keeps (s : State) :
    SameHpx s (echoFailed s) ∧ (echoFailed s).dkc = s.dkc ∧ (echoFailed s).cvt = s.cvt ∧ SameAmc s (echoFailed s) ∧
    (echoFailed s).tlk = s.tlk ∧ (echoFailed s).flk = s.flk ∧ SameFluxInputs s (echoFailed s) ∧
    (echoFailed s).phc = s.phc ∧ (echoFailed s).ptc.pot = s.ptc.pot ∧ (echoFailed s).ptc.chip = s.ptc.chip ∧
    (echoFailed s).ptc.main = s.ptc.main ∧ (echoFailed s).ptc.chipList = s.ptc.chipList ∧
    (echoFailed s).ptc.mainList = s.ptc.mainList ∧ (echoFailed s).ptc.mainLeftRamping = s.ptc.mainLeftRamping ∧
    (echoFailed s).ptc.workingRef = s.ptc.workingRef ∧ (echoFailed s).ptc.calibrate = s.ptc.calibrate ∧
    (echoFailed s).ptc.potPeriodStart = s.ptc.potPeriodStart ∧
    (echoFailed s).ptc.nextPotPeriod = s.ptc.nextPotPeriod ∧ (echoFailed s).ptc.nextRamp = s.ptc.nextRamp ∧
    (echoFailed s).ptc.nextEcho = s.ptc.nextEcho ∧ (echoFailed s).exm = s.exm ∧ (echoFailed s).free = s.free ∧
    (echoFailed s).pending = s.pending := by
  unfold echoFailed; (try dsimp only) <;> (repeat' split) <;> simp

@[simp] theorem echoValid_keeps (d : Nat) (s : State) :
    SameHpx s (echoValid d s) ∧ (echoValid d s).dkc = s.dkc ∧ (echoValid d s).cvt = s.cvt ∧
    SameAmc s (echoValid d s) ∧ (echoValid d s).tlk = s.tlk ∧ (echoValid d s).flk = s.flk ∧
    SameFluxInputs s (echoValid d s) ∧ (echoValid d s).phc = s.phc ∧ (echoValid d s).ptc.pot = s.ptc.pot ∧
    (echoValid d s).ptc.chip = s.ptc.chip ∧ (echoValid d s).ptc.main = s.ptc.main ∧
    (echoValid d s).ptc.chipList = s.ptc.chipList ∧ (echoValid d s).ptc.mainList = s.ptc.mainList ∧
    (echoValid d s).ptc.mainLeftRamping = s.ptc.mainLeftRamping ∧ (echoValid d s).ptc.workingRef = s.ptc.workingRef
    ∧ (echoValid d s).ptc.calibrate = s.ptc.calibrate ∧ (echoValid d s).ptc.potPeriodStart = s.ptc.potPeriodStart ∧
    (echoValid d s).ptc.nextPotPeriod = s.ptc.nextPotPeriod ∧ (echoValid d s).ptc.nextRamp = s.ptc.nextRamp ∧
    (echoValid d s).ptc.nextEcho = s.ptc.nextEcho ∧ (echoValid d s).exm = s.exm ∧ (echoValid d s).free = s.free ∧
    (echoValid d s).pending = s.pending := by
  unfold echoValid; (try dsimp only) <;> (repeat' split) <;> simp

@[simp] theorem echoResult_keeps (status : ResultStatus) (value : Nat) (s : State) :
    SameHpx s (echoResult status value s) ∧ (echoResult status value s).dkc = s.dkc ∧
    (echoResult status value s).cvt = s.cvt ∧ SameAmc s (echoResult status value s) ∧
    (echoResult status value s).tlk = s.tlk ∧ (echoResult status value s).flk = s.flk ∧
    SameFluxInputs s (echoResult status value s) ∧ (echoResult status value s).phc = s.phc ∧
    (echoResult status value s).ptc.pot = s.ptc.pot ∧ (echoResult status value s).ptc.chipList = s.ptc.chipList ∧
    (echoResult status value s).ptc.mainList = s.ptc.mainList ∧
    (echoResult status value s).ptc.potPeriodStart = s.ptc.potPeriodStart ∧
    (echoResult status value s).ptc.nextPotPeriod = s.ptc.nextPotPeriod ∧
    (echoResult status value s).ptc.nextRamp = s.ptc.nextRamp ∧
    (echoResult status value s).ptc.nextEcho = s.ptc.nextEcho ∧ (echoResult status value s).exm = s.exm ∧
    (echoResult status value s).free = s.free ∧ (echoResult status value s).pending = s.pending := by
  unfold echoResult; (try dsimp only) <;> (repeat' split) <;> simp

@[simp] theorem echoPlacement_keeps (s : State) :
    SameHpx s (echoPlacement s) ∧ (echoPlacement s).dkc = s.dkc ∧ (echoPlacement s).cvt = s.cvt ∧
    (echoPlacement s).amc = s.amc ∧ (echoPlacement s).tlk = s.tlk ∧ (echoPlacement s).flk = s.flk ∧
    (echoPlacement s).fxc = s.fxc ∧ (echoPlacement s).phc = s.phc ∧ (echoPlacement s).ptc.pot = s.ptc.pot ∧
    (echoPlacement s).ptc.chip = s.ptc.chip ∧ (echoPlacement s).ptc.main = s.ptc.main ∧
    (echoPlacement s).ptc.chipList = s.ptc.chipList ∧ (echoPlacement s).ptc.mainList = s.ptc.mainList ∧
    (echoPlacement s).ptc.mainLeftRamping = s.ptc.mainLeftRamping ∧
    (echoPlacement s).ptc.distances = s.ptc.distances ∧ (echoPlacement s).ptc.echoFailures = s.ptc.echoFailures ∧
    (echoPlacement s).ptc.echoLost = s.ptc.echoLost ∧ (echoPlacement s).ptc.levelState = s.ptc.levelState ∧
    (echoPlacement s).ptc.workingRef = s.ptc.workingRef ∧ (echoPlacement s).ptc.feeder = s.ptc.feeder ∧
    (echoPlacement s).ptc.feedTimer = s.ptc.feedTimer ∧ (echoPlacement s).ptc.calibrate = s.ptc.calibrate ∧
    (echoPlacement s).ptc.feed = s.ptc.feed ∧ (echoPlacement s).ptc.potPeriodStart = s.ptc.potPeriodStart ∧
    (echoPlacement s).ptc.nextPotPeriod = s.ptc.nextPotPeriod ∧ (echoPlacement s).ptc.nextRamp = s.ptc.nextRamp ∧
    (echoPlacement s).exm = s.exm ∧ (echoPlacement s).free = s.free ∧ (echoPlacement s).pending = s.pending := by
  unfold echoPlacement; (try dsimp only) <;> (repeat' split) <;> simp

@[simp] theorem quietExpiry_keeps (s : State) :
    OnlyPtc s (quietExpiry s) ∧ SamePtcButPumps s (quietExpiry s) ∧ (quietExpiry s).ptc.pot = s.ptc.pot ∧
    (quietExpiry s).ptc.chip = s.ptc.chip ∧ (quietExpiry s).ptc.main = s.ptc.main ∧
    (quietExpiry s).ptc.mainLeftRamping = s.ptc.mainLeftRamping ∧ (quietExpiry s).ptc.feeder = s.ptc.feeder ∧
    (quietExpiry s).ptc.feedTimer = s.ptc.feedTimer ∧ (quietExpiry s).ptc.feed = s.ptc.feed := by
  unfold quietExpiry; (try dsimp only) <;> (repeat' split) <;> simp

@[simp] theorem feedRequestExpiry_keeps (s : State) :
    SameHpx s (feedRequestExpiry s) ∧ (feedRequestExpiry s).dkc = s.dkc ∧ (feedRequestExpiry s).cvt = s.cvt ∧
    (feedRequestExpiry s).amc = s.amc ∧ (feedRequestExpiry s).cta = s.cta ∧ (feedRequestExpiry s).tlk = s.tlk ∧
    (feedRequestExpiry s).flk = s.flk ∧ (feedRequestExpiry s).fxc = s.fxc ∧ (feedRequestExpiry s).phc = s.phc ∧
    SamePtcButPumps s (feedRequestExpiry s) ∧ (feedRequestExpiry s).ptc.pot = s.ptc.pot ∧
    (feedRequestExpiry s).ptc.chip = s.ptc.chip ∧ (feedRequestExpiry s).ptc.main = s.ptc.main ∧
    (feedRequestExpiry s).ptc.mainLeftRamping = s.ptc.mainLeftRamping ∧
    (feedRequestExpiry s).ptc.calibrate = s.ptc.calibrate ∧ (feedRequestExpiry s).exm = s.exm ∧
    (feedRequestExpiry s).free = s.free ∧ (feedRequestExpiry s).pending = s.pending := by
  unfold feedRequestExpiry; (try dsimp only) <;> (repeat' split) <;> simp

@[simp] theorem feedTimeout_keeps (s : State) :
    OnlyPot s (feedTimeout s) ∧ (feedTimeout s).ptc.pot = s.ptc.pot ∧ (feedTimeout s).ptc.chip = s.ptc.chip ∧
    (feedTimeout s).ptc.main = s.ptc.main ∧ (feedTimeout s).ptc.mainLeftRamping = s.ptc.mainLeftRamping ∧
    (feedTimeout s).ptc.feedTimer = s.ptc.feedTimer ∧ (feedTimeout s).ptc.calibrate = s.ptc.calibrate ∧
    (feedTimeout s).ptc.feed = s.ptc.feed ∧ (feedTimeout s).free = s.free := by
  unfold feedTimeout; (try dsimp only) <;> (repeat' split) <;> simp

@[simp] theorem enterExtract_keeps (new : ExtractState) (s : State) :
    SameHpx s (enterExtract new s) ∧ (enterExtract new s).dkc = s.dkc ∧ (enterExtract new s).cvt = s.cvt ∧
    SameAmc s (enterExtract new s) ∧ (enterExtract new s).tlk = s.tlk ∧ (enterExtract new s).flk = s.flk ∧
    SameFluxInputs s (enterExtract new s) ∧ (enterExtract new s).phc = s.phc ∧ (enterExtract new s).ptc = s.ptc ∧
    (enterExtract new s).exm.fanOn = s.exm.fanOn ∧ (enterExtract new s).exm.runOn = s.exm.runOn ∧
    (enterExtract new s).exm.suppression = s.exm.suppression ∧
    (enterExtract new s).exm.airflowLow = s.exm.airflowLow ∧
    (enterExtract new s).exm.airflowLost = s.exm.airflowLost ∧
    (enterExtract new s).exm.filterLoaded = s.exm.filterLoaded ∧
    (enterExtract new s).exm.filterClogged = s.exm.filterClogged ∧
    (enterExtract new s).exm.fanStall = s.exm.fanStall ∧ (enterExtract new s).exm.stallTimer = s.exm.stallTimer ∧
    (enterExtract new s).exm.clearTimer = s.exm.clearTimer ∧ (enterExtract new s).exm.linkDuct = s.exm.linkDuct ∧
    (enterExtract new s).exm.linkFilter = s.exm.linkFilter ∧ (enterExtract new s).exm.sensorLink = s.exm.sensorLink
    ∧ (enterExtract new s).exm.ductDp = s.exm.ductDp ∧ (enterExtract new s).exm.filterDp = s.exm.filterDp ∧
    (enterExtract new s).exm.fanRpm = s.exm.fanRpm ∧ (enterExtract new s).free = s.free ∧
    (enterExtract new s).pending = s.pending := by
  unfold enterExtract; (try dsimp only) <;> (repeat' split) <;> simp

@[simp] theorem deriveExtract_keeps (s : State) :
    SameHpx s (deriveExtract s) ∧ (deriveExtract s).dkc = s.dkc ∧ (deriveExtract s).cvt = s.cvt ∧
    SameAmc s (deriveExtract s) ∧ (deriveExtract s).tlk = s.tlk ∧ (deriveExtract s).flk = s.flk ∧
    SameFluxInputs s (deriveExtract s) ∧ (deriveExtract s).phc = s.phc ∧ (deriveExtract s).ptc = s.ptc ∧
    (deriveExtract s).exm.fanOn = s.exm.fanOn ∧ (deriveExtract s).exm.runOn = s.exm.runOn ∧
    (deriveExtract s).exm.suppression = s.exm.suppression ∧ (deriveExtract s).exm.airflowLow = s.exm.airflowLow ∧
    (deriveExtract s).exm.airflowLost = s.exm.airflowLost ∧ (deriveExtract s).exm.filterLoaded = s.exm.filterLoaded
    ∧ (deriveExtract s).exm.filterClogged = s.exm.filterClogged ∧ (deriveExtract s).exm.fanStall = s.exm.fanStall ∧
    (deriveExtract s).exm.stallTimer = s.exm.stallTimer ∧ (deriveExtract s).exm.clearTimer = s.exm.clearTimer ∧
    (deriveExtract s).exm.linkDuct = s.exm.linkDuct ∧ (deriveExtract s).exm.linkFilter = s.exm.linkFilter ∧
    (deriveExtract s).exm.sensorLink = s.exm.sensorLink ∧ (deriveExtract s).exm.ductDp = s.exm.ductDp ∧
    (deriveExtract s).exm.filterDp = s.exm.filterDp ∧ (deriveExtract s).exm.fanRpm = s.exm.fanRpm ∧
    (deriveExtract s).free = s.free ∧ (deriveExtract s).pending = s.pending := by
  unfold deriveExtract; (try dsimp only) <;> (repeat' split) <;> simp

@[simp] theorem putCond_keeps (c : PressureCond) (r : Confirmed) (s : State) :
    OnlyExm s (putCond c r s) ∧ (putCond c r s).exm.fanOn = s.exm.fanOn ∧ (putCond c r s).exm.runOn = s.exm.runOn ∧
    (putCond c r s).exm.state = s.exm.state ∧ (putCond c r s).exm.suppression = s.exm.suppression ∧
    (putCond c r s).exm.fanStall = s.exm.fanStall ∧ (putCond c r s).exm.stallTimer = s.exm.stallTimer ∧
    (putCond c r s).exm.clearTimer = s.exm.clearTimer ∧ (putCond c r s).exm.linkDuct = s.exm.linkDuct ∧
    (putCond c r s).exm.linkFilter = s.exm.linkFilter ∧ (putCond c r s).exm.sensorLink = s.exm.sensorLink ∧
    (putCond c r s).exm.grace = s.exm.grace ∧ (putCond c r s).exm.ductDp = s.exm.ductDp ∧
    (putCond c r s).exm.filterDp = s.exm.filterDp ∧ (putCond c r s).exm.fanRpm = s.exm.fanRpm := by
  unfold putCond; (try dsimp only) <;> (repeat' split) <;> simp

@[simp] theorem sampleCond_keeps (c : PressureCond) (dp : Int) (s : State) :
    OnlyExm s (sampleCond c dp s) ∧ (sampleCond c dp s).exm.fanOn = s.exm.fanOn ∧
    (sampleCond c dp s).exm.runOn = s.exm.runOn ∧ (sampleCond c dp s).exm.state = s.exm.state ∧
    (sampleCond c dp s).exm.suppression = s.exm.suppression ∧ (sampleCond c dp s).exm.fanStall = s.exm.fanStall ∧
    (sampleCond c dp s).exm.stallTimer = s.exm.stallTimer ∧ (sampleCond c dp s).exm.clearTimer = s.exm.clearTimer ∧
    (sampleCond c dp s).exm.linkDuct = s.exm.linkDuct ∧ (sampleCond c dp s).exm.linkFilter = s.exm.linkFilter ∧
    (sampleCond c dp s).exm.sensorLink = s.exm.sensorLink ∧ (sampleCond c dp s).exm.grace = s.exm.grace ∧
    (sampleCond c dp s).exm.ductDp = s.exm.ductDp ∧ (sampleCond c dp s).exm.filterDp = s.exm.filterDp ∧
    (sampleCond c dp s).exm.fanRpm = s.exm.fanRpm := by
  unfold sampleCond; (try dsimp only) <;> (repeat' split) <;> simp

@[simp] theorem takePressure_keeps (sensor : FumeSensor) (p : Half) (s : State) :
    OnlyExm s (takePressure sensor p s) ∧ (takePressure sensor p s).exm.fanOn = s.exm.fanOn ∧
    (takePressure sensor p s).exm.runOn = s.exm.runOn ∧ (takePressure sensor p s).exm.state = s.exm.state ∧
    (takePressure sensor p s).exm.suppression = s.exm.suppression ∧
    (takePressure sensor p s).exm.fanStall = s.exm.fanStall ∧
    (takePressure sensor p s).exm.stallTimer = s.exm.stallTimer ∧
    (takePressure sensor p s).exm.clearTimer = s.exm.clearTimer ∧
    (takePressure sensor p s).exm.linkDuct = s.exm.linkDuct ∧
    (takePressure sensor p s).exm.linkFilter = s.exm.linkFilter ∧
    (takePressure sensor p s).exm.sensorLink = s.exm.sensorLink ∧ (takePressure sensor p s).exm.grace = s.exm.grace
    ∧ (takePressure sensor p s).exm.fanRpm = s.exm.fanRpm := by
  unfold takePressure; (try dsimp only) <;> (repeat' split) <;> simp

@[simp] theorem condExpiry_keeps (c : PressureCond) (s : State) :
    SameHpx s (condExpiry c s) ∧ (condExpiry c s).dkc = s.dkc ∧ (condExpiry c s).cvt = s.cvt ∧
    SameAmc s (condExpiry c s) ∧ (condExpiry c s).tlk = s.tlk ∧ (condExpiry c s).flk = s.flk ∧
    SameFluxInputs s (condExpiry c s) ∧ (condExpiry c s).phc = s.phc ∧ (condExpiry c s).ptc = s.ptc ∧
    (condExpiry c s).exm.fanOn = s.exm.fanOn ∧ (condExpiry c s).exm.runOn = s.exm.runOn ∧
    (condExpiry c s).exm.suppression = s.exm.suppression ∧ (condExpiry c s).exm.fanStall = s.exm.fanStall ∧
    (condExpiry c s).exm.stallTimer = s.exm.stallTimer ∧ (condExpiry c s).exm.clearTimer = s.exm.clearTimer ∧
    (condExpiry c s).exm.linkDuct = s.exm.linkDuct ∧ (condExpiry c s).exm.linkFilter = s.exm.linkFilter ∧
    (condExpiry c s).exm.sensorLink = s.exm.sensorLink ∧ (condExpiry c s).exm.ductDp = s.exm.ductDp ∧
    (condExpiry c s).exm.filterDp = s.exm.filterDp ∧ (condExpiry c s).exm.fanRpm = s.exm.fanRpm ∧
    (condExpiry c s).free = s.free ∧ (condExpiry c s).pending = s.pending := by
  unfold condExpiry; (try dsimp only) <;> (repeat' split) <;> simp

@[simp] theorem placeFan_keeps (s : State) :
    OnlyClaims s (placeFan s) := by
  unfold placeFan; (try dsimp only) <;> (repeat' split) <;> simp

@[simp] theorem judgeFan_keeps (rpm : Nat) (s : State) :
    OnlyExm s (judgeFan rpm s) ∧ (judgeFan rpm s).exm.fanOn = s.exm.fanOn ∧ (judgeFan rpm s).exm.runOn = s.exm.runOn
    ∧ (judgeFan rpm s).exm.state = s.exm.state ∧ (judgeFan rpm s).exm.suppression = s.exm.suppression ∧
    (judgeFan rpm s).exm.airflowLow = s.exm.airflowLow ∧ (judgeFan rpm s).exm.airflowLost = s.exm.airflowLost ∧
    (judgeFan rpm s).exm.filterLoaded = s.exm.filterLoaded ∧
    (judgeFan rpm s).exm.filterClogged = s.exm.filterClogged ∧ (judgeFan rpm s).exm.fanStall = s.exm.fanStall ∧
    (judgeFan rpm s).exm.linkDuct = s.exm.linkDuct ∧ (judgeFan rpm s).exm.linkFilter = s.exm.linkFilter ∧
    (judgeFan rpm s).exm.sensorLink = s.exm.sensorLink ∧ (judgeFan rpm s).exm.grace = s.exm.grace ∧
    (judgeFan rpm s).exm.ductDp = s.exm.ductDp ∧ (judgeFan rpm s).exm.filterDp = s.exm.filterDp ∧
    (judgeFan rpm s).exm.fanRpm = s.exm.fanRpm := by
  unfold judgeFan; (try dsimp only) <;> (repeat' split) <;> simp

@[simp] theorem fanResult_keeps (status : ResultStatus) (value : Nat) (s : State) :
    SameHpx s (fanResult status value s) ∧ (fanResult status value s).dkc = s.dkc ∧
    (fanResult status value s).cvt = s.cvt ∧ (fanResult status value s).amc = s.amc ∧
    (fanResult status value s).tlk = s.tlk ∧ (fanResult status value s).flk = s.flk ∧
    (fanResult status value s).fxc = s.fxc ∧ (fanResult status value s).phc = s.phc ∧
    (fanResult status value s).ptc = s.ptc ∧ (fanResult status value s).exm.fanOn = s.exm.fanOn ∧
    (fanResult status value s).exm.runOn = s.exm.runOn ∧ (fanResult status value s).exm.state = s.exm.state ∧
    (fanResult status value s).exm.suppression = s.exm.suppression ∧
    (fanResult status value s).exm.airflowLow = s.exm.airflowLow ∧
    (fanResult status value s).exm.airflowLost = s.exm.airflowLost ∧
    (fanResult status value s).exm.filterLoaded = s.exm.filterLoaded ∧
    (fanResult status value s).exm.filterClogged = s.exm.filterClogged ∧
    (fanResult status value s).exm.fanStall = s.exm.fanStall ∧
    (fanResult status value s).exm.linkDuct = s.exm.linkDuct ∧
    (fanResult status value s).exm.linkFilter = s.exm.linkFilter ∧
    (fanResult status value s).exm.sensorLink = s.exm.sensorLink ∧
    (fanResult status value s).exm.grace = s.exm.grace ∧ (fanResult status value s).exm.ductDp = s.exm.ductDp ∧
    (fanResult status value s).exm.filterDp = s.exm.filterDp ∧ (fanResult status value s).pending = s.pending := by
  unfold fanResult; (try dsimp only) <;> (repeat' split) <;> simp

@[simp] theorem fanStallExpiry_keeps (s : State) :
    SameHpx s (fanStallExpiry s) ∧ (fanStallExpiry s).dkc = s.dkc ∧ (fanStallExpiry s).cvt = s.cvt ∧
    SameAmc s (fanStallExpiry s) ∧ (fanStallExpiry s).tlk = s.tlk ∧ (fanStallExpiry s).flk = s.flk ∧
    SameFluxInputs s (fanStallExpiry s) ∧ (fanStallExpiry s).phc = s.phc ∧ (fanStallExpiry s).ptc = s.ptc ∧
    (fanStallExpiry s).exm.fanOn = s.exm.fanOn ∧ (fanStallExpiry s).exm.runOn = s.exm.runOn ∧
    (fanStallExpiry s).exm.suppression = s.exm.suppression ∧ (fanStallExpiry s).exm.airflowLow = s.exm.airflowLow ∧
    (fanStallExpiry s).exm.airflowLost = s.exm.airflowLost ∧
    (fanStallExpiry s).exm.filterLoaded = s.exm.filterLoaded ∧
    (fanStallExpiry s).exm.filterClogged = s.exm.filterClogged ∧ (fanStallExpiry s).exm.linkDuct = s.exm.linkDuct ∧
    (fanStallExpiry s).exm.linkFilter = s.exm.linkFilter ∧ (fanStallExpiry s).exm.sensorLink = s.exm.sensorLink ∧
    (fanStallExpiry s).exm.ductDp = s.exm.ductDp ∧ (fanStallExpiry s).exm.filterDp = s.exm.filterDp ∧
    (fanStallExpiry s).exm.fanRpm = s.exm.fanRpm ∧ (fanStallExpiry s).free = s.free ∧
    (fanStallExpiry s).pending = s.pending := by
  unfold fanStallExpiry; (try dsimp only) <;> (repeat' split) <;> simp

@[simp] theorem fanClearExpiry_keeps (s : State) :
    SameHpx s (fanClearExpiry s) ∧ (fanClearExpiry s).dkc = s.dkc ∧ (fanClearExpiry s).cvt = s.cvt ∧
    SameAmc s (fanClearExpiry s) ∧ (fanClearExpiry s).tlk = s.tlk ∧ (fanClearExpiry s).flk = s.flk ∧
    SameFluxInputs s (fanClearExpiry s) ∧ (fanClearExpiry s).phc = s.phc ∧ (fanClearExpiry s).ptc = s.ptc ∧
    (fanClearExpiry s).exm.fanOn = s.exm.fanOn ∧ (fanClearExpiry s).exm.runOn = s.exm.runOn ∧
    (fanClearExpiry s).exm.suppression = s.exm.suppression ∧ (fanClearExpiry s).exm.airflowLow = s.exm.airflowLow ∧
    (fanClearExpiry s).exm.airflowLost = s.exm.airflowLost ∧
    (fanClearExpiry s).exm.filterLoaded = s.exm.filterLoaded ∧
    (fanClearExpiry s).exm.filterClogged = s.exm.filterClogged ∧ (fanClearExpiry s).exm.linkDuct = s.exm.linkDuct ∧
    (fanClearExpiry s).exm.linkFilter = s.exm.linkFilter ∧ (fanClearExpiry s).exm.sensorLink = s.exm.sensorLink ∧
    (fanClearExpiry s).exm.ductDp = s.exm.ductDp ∧ (fanClearExpiry s).exm.filterDp = s.exm.filterDp ∧
    (fanClearExpiry s).exm.fanRpm = s.exm.fanRpm ∧ (fanClearExpiry s).free = s.free ∧
    (fanClearExpiry s).pending = s.pending := by
  unfold fanClearExpiry; (try dsimp only) <;> (repeat' split) <;> simp

@[simp] theorem linkNotice_keeps (sensor : FumeSensor) (fault : Bool) (s : State) :
    SameHpx s (linkNotice sensor fault s) ∧ (linkNotice sensor fault s).dkc = s.dkc ∧
    (linkNotice sensor fault s).cvt = s.cvt ∧ SameAmc s (linkNotice sensor fault s) ∧
    (linkNotice sensor fault s).tlk = s.tlk ∧ (linkNotice sensor fault s).flk = s.flk ∧
    SameFluxInputs s (linkNotice sensor fault s) ∧ (linkNotice sensor fault s).phc = s.phc ∧
    (linkNotice sensor fault s).ptc = s.ptc ∧ (linkNotice sensor fault s).exm.fanOn = s.exm.fanOn ∧
    (linkNotice sensor fault s).exm.runOn = s.exm.runOn ∧
    (linkNotice sensor fault s).exm.suppression = s.exm.suppression ∧
    (linkNotice sensor fault s).exm.airflowLow = s.exm.airflowLow ∧
    (linkNotice sensor fault s).exm.airflowLost = s.exm.airflowLost ∧
    (linkNotice sensor fault s).exm.filterLoaded = s.exm.filterLoaded ∧
    (linkNotice sensor fault s).exm.filterClogged = s.exm.filterClogged ∧
    (linkNotice sensor fault s).exm.fanStall = s.exm.fanStall ∧
    (linkNotice sensor fault s).exm.stallTimer = s.exm.stallTimer ∧
    (linkNotice sensor fault s).exm.clearTimer = s.exm.clearTimer ∧
    (linkNotice sensor fault s).exm.ductDp = s.exm.ductDp ∧
    (linkNotice sensor fault s).exm.filterDp = s.exm.filterDp ∧
    (linkNotice sensor fault s).exm.fanRpm = s.exm.fanRpm ∧ (linkNotice sensor fault s).free = s.free ∧
    (linkNotice sensor fault s).pending = s.pending := by
  unfold linkNotice; (try dsimp only) <;> (repeat' split) <;> simp

@[simp] theorem conditionsAbsent_keeps (s : State) :
    OnlyExm s (conditionsAbsent s) ∧ (conditionsAbsent s).exm.fanOn = s.exm.fanOn ∧
    (conditionsAbsent s).exm.runOn = s.exm.runOn ∧ (conditionsAbsent s).exm.state = s.exm.state ∧
    (conditionsAbsent s).exm.suppression = s.exm.suppression ∧ (conditionsAbsent s).exm.linkDuct = s.exm.linkDuct ∧
    (conditionsAbsent s).exm.linkFilter = s.exm.linkFilter ∧ (conditionsAbsent s).exm.grace = s.exm.grace ∧
    (conditionsAbsent s).exm.ductDp = s.exm.ductDp ∧ (conditionsAbsent s).exm.filterDp = s.exm.filterDp ∧
    (conditionsAbsent s).exm.fanRpm = s.exm.fanRpm := by
  unfold conditionsAbsent; (try dsimp only) <;> (repeat' split) <;> simp

@[simp] theorem clearConditions_keeps (s : State) :
    OnlyAlarms s (clearConditions s) ∧ (clearConditions s).xm = s.xm := by
  unfold clearConditions; (try dsimp only) <;> (repeat' split) <;> simp

@[simp] theorem fanStart_keeps (s : State) :
    SameHpx s (fanStart s) ∧ (fanStart s).dkc = s.dkc ∧ (fanStart s).cvt = s.cvt ∧ SameAmc s (fanStart s) ∧
    (fanStart s).tlk = s.tlk ∧ (fanStart s).flk = s.flk ∧ SameFluxInputs s (fanStart s) ∧ (fanStart s).phc = s.phc ∧
    (fanStart s).ptc = s.ptc ∧ (fanStart s).exm.linkDuct = s.exm.linkDuct ∧
    (fanStart s).exm.linkFilter = s.exm.linkFilter ∧ (fanStart s).exm.ductDp = s.exm.ductDp ∧
    (fanStart s).exm.filterDp = s.exm.filterDp ∧ (fanStart s).exm.fanRpm = s.exm.fanRpm ∧ (fanStart s).free = s.free
    ∧ (fanStart s).pending = s.pending := by
  unfold fanStart; (try dsimp only) <;> (repeat' split) <;> simp

@[simp] theorem suppressionExpiry_keeps (s : State) :
    SameHpx s (suppressionExpiry s) ∧ (suppressionExpiry s).dkc = s.dkc ∧ (suppressionExpiry s).cvt = s.cvt ∧
    SameAmc s (suppressionExpiry s) ∧ (suppressionExpiry s).tlk = s.tlk ∧ (suppressionExpiry s).flk = s.flk ∧
    SameFluxInputs s (suppressionExpiry s) ∧ (suppressionExpiry s).phc = s.phc ∧ (suppressionExpiry s).ptc = s.ptc ∧
    (suppressionExpiry s).exm.fanOn = s.exm.fanOn ∧ (suppressionExpiry s).exm.runOn = s.exm.runOn ∧
    (suppressionExpiry s).exm.airflowLow = s.exm.airflowLow ∧
    (suppressionExpiry s).exm.airflowLost = s.exm.airflowLost ∧
    (suppressionExpiry s).exm.filterLoaded = s.exm.filterLoaded ∧
    (suppressionExpiry s).exm.filterClogged = s.exm.filterClogged ∧
    (suppressionExpiry s).exm.fanStall = s.exm.fanStall ∧ (suppressionExpiry s).exm.stallTimer = s.exm.stallTimer ∧
    (suppressionExpiry s).exm.clearTimer = s.exm.clearTimer ∧ (suppressionExpiry s).exm.linkDuct = s.exm.linkDuct ∧
    (suppressionExpiry s).exm.linkFilter = s.exm.linkFilter ∧ (suppressionExpiry s).exm.ductDp = s.exm.ductDp ∧
    (suppressionExpiry s).exm.filterDp = s.exm.filterDp ∧ (suppressionExpiry s).exm.fanRpm = s.exm.fanRpm ∧
    (suppressionExpiry s).free = s.free ∧ (suppressionExpiry s).pending = s.pending := by
  unfold suppressionExpiry; (try dsimp only) <;> (repeat' split) <;> simp

@[simp] theorem startRunOn_keeps (s : State) :
    OnlyExm s (startRunOn s) ∧ (startRunOn s).exm.fanOn = s.exm.fanOn ∧ (startRunOn s).exm.state = s.exm.state ∧
    (startRunOn s).exm.suppression = s.exm.suppression ∧ (startRunOn s).exm.airflowLow = s.exm.airflowLow ∧
    (startRunOn s).exm.airflowLost = s.exm.airflowLost ∧ (startRunOn s).exm.filterLoaded = s.exm.filterLoaded ∧
    (startRunOn s).exm.filterClogged = s.exm.filterClogged ∧ (startRunOn s).exm.fanStall = s.exm.fanStall ∧
    (startRunOn s).exm.stallTimer = s.exm.stallTimer ∧ (startRunOn s).exm.clearTimer = s.exm.clearTimer ∧
    (startRunOn s).exm.linkDuct = s.exm.linkDuct ∧ (startRunOn s).exm.linkFilter = s.exm.linkFilter ∧
    (startRunOn s).exm.sensorLink = s.exm.sensorLink ∧ (startRunOn s).exm.grace = s.exm.grace ∧
    (startRunOn s).exm.ductDp = s.exm.ductDp ∧ (startRunOn s).exm.filterDp = s.exm.filterDp ∧
    (startRunOn s).exm.fanRpm = s.exm.fanRpm := by
  unfold startRunOn; (try dsimp only) <;> (repeat' split) <;> simp

@[simp] theorem runOnExpiry_keeps (s : State) :
    SameHpx s (runOnExpiry s) ∧ (runOnExpiry s).dkc = s.dkc ∧ (runOnExpiry s).cvt = s.cvt ∧
    SameAmc s (runOnExpiry s) ∧ (runOnExpiry s).tlk = s.tlk ∧ (runOnExpiry s).flk = s.flk ∧
    SameFluxInputs s (runOnExpiry s) ∧ (runOnExpiry s).phc = s.phc ∧ (runOnExpiry s).ptc = s.ptc ∧
    (runOnExpiry s).exm.linkDuct = s.exm.linkDuct ∧ (runOnExpiry s).exm.linkFilter = s.exm.linkFilter ∧
    (runOnExpiry s).exm.ductDp = s.exm.ductDp ∧ (runOnExpiry s).exm.filterDp = s.exm.filterDp ∧
    (runOnExpiry s).exm.fanRpm = s.exm.fanRpm ∧ (runOnExpiry s).free = s.free ∧ (runOnExpiry s).pending = s.pending := by
  unfold runOnExpiry; (try dsimp only) <;> (repeat' split) <;> simp

@[simp] theorem flkStart_keeps (s : State) :
    SameHpx s (flkStart s) ∧ (flkStart s).dkc = s.dkc ∧ (flkStart s).cvt = s.cvt ∧ SameAmc s (flkStart s) ∧
    (flkStart s).tlk = s.tlk ∧ (flkStart s).flk.poll = s.flk.poll ∧ (flkStart s).flk.nextPoll = s.flk.nextPoll ∧
    SameFluxInputs s (flkStart s) ∧ (flkStart s).phc = s.phc ∧ (flkStart s).ptc = s.ptc ∧
    (flkStart s).exm.fanOn = s.exm.fanOn ∧ (flkStart s).exm.runOn = s.exm.runOn ∧
    (flkStart s).exm.suppression = s.exm.suppression ∧ (flkStart s).exm.airflowLow = s.exm.airflowLow ∧
    (flkStart s).exm.airflowLost = s.exm.airflowLost ∧ (flkStart s).exm.filterLoaded = s.exm.filterLoaded ∧
    (flkStart s).exm.filterClogged = s.exm.filterClogged ∧ (flkStart s).exm.fanStall = s.exm.fanStall ∧
    (flkStart s).exm.stallTimer = s.exm.stallTimer ∧ (flkStart s).exm.clearTimer = s.exm.clearTimer ∧
    (flkStart s).exm.ductDp = s.exm.ductDp ∧ (flkStart s).exm.filterDp = s.exm.filterDp ∧
    (flkStart s).exm.fanRpm = s.exm.fanRpm ∧ (flkStart s).free = s.free ∧ (flkStart s).pending = s.pending := by
  unfold flkStart; (try dsimp only) <;> (repeat' split) <;> simp

end Sys2Proof.Machine
end

