-- ==== Sys2Proof/Laws/ModeFrames.lean ====
section
/-! SUPPORT. Frames of mode changes, changeovers, claims of any class, sensor frames and results. -/

namespace Sys2Proof.Machine

@[simp] theorem setMode_keeps (m : Mode) (s : State) :
    SameHpx s (setMode m s) ∧ (setMode m s).dkc = s.dkc ∧ (setMode m s).cvt = s.cvt ∧ SameAmcButMode s (setMode m s)
    ∧ (setMode m s).amc.alarms = s.amc.alarms ∧ (setMode m s).amc.finish = s.amc.finish ∧
    (setMode m s).amc.changeover = s.amc.changeover ∧ (setMode m s).cta = s.cta ∧ (setMode m s).tlk = s.tlk ∧
    (setMode m s).flk = s.flk ∧ (setMode m s).fxc = s.fxc ∧ (setMode m s).phc = s.phc ∧ (setMode m s).ptc = s.ptc ∧
    (setMode m s).exm = s.exm ∧ (setMode m s).xm = s.xm ∧ (setMode m s).free = s.free ∧
    (setMode m s).pending = s.pending := by
  unfold setMode; (try dsimp only) <;> (repeat' split) <;> simp

@[simp] theorem fluxOnMode_keeps (s : State) :
    OnlyFlux s (fluxOnMode s) := by
  unfold fluxOnMode; (try dsimp only) <;> (repeat' split) <;> simp

@[simp] theorem potRequestsOnMode_keeps (s : State) :
    OnlyPot s (potRequestsOnMode s) ∧ (potRequestsOnMode s).ptc.pot = s.ptc.pot ∧
    (potRequestsOnMode s).free = s.free := by
  unfold potRequestsOnMode; (try dsimp only) <;> (repeat' split) <;> simp

@[simp] theorem ptcOnMode_keeps (old : Mode) (s : State) :
    OnlyPot s (ptcOnMode old s) := by
  unfold ptcOnMode; (try dsimp only) <;> (repeat' split) <;> simp

@[simp] theorem cvtOnMode_keeps (s : State) :
    SameHpx s (cvtOnMode s) ∧ (cvtOnMode s).dkc = s.dkc ∧ SameCvtButDrive s (cvtOnMode s) ∧
    (cvtOnMode s).cvt.reference = s.cvt.reference ∧ (cvtOnMode s).cvt.stall = s.cvt.stall ∧ SameAmc s (cvtOnMode s)
    ∧ (cvtOnMode s).cta = s.cta ∧ (cvtOnMode s).tlk = s.tlk ∧ (cvtOnMode s).flk = s.flk ∧ (cvtOnMode s).fxc = s.fxc
    ∧ (cvtOnMode s).phc = s.phc ∧ (cvtOnMode s).ptc = s.ptc ∧ (cvtOnMode s).exm = s.exm ∧ (cvtOnMode s).xm = s.xm ∧
    (cvtOnMode s).free = s.free ∧ (cvtOnMode s).pending = s.pending := by
  unfold cvtOnMode; (try dsimp only) <;> (repeat' split) <;> simp

@[simp] theorem blocksOnMode_keeps (old : Mode) (s : State) :
    SameHpx s (blocksOnMode old s) ∧ (blocksOnMode old s).dkc = s.dkc ∧ SameCvtButDrive s (blocksOnMode old s) ∧
    (blocksOnMode old s).cvt.reference = s.cvt.reference ∧ (blocksOnMode old s).cvt.stall = s.cvt.stall ∧
    SameAmc s (blocksOnMode old s) ∧ (blocksOnMode old s).tlk = s.tlk ∧ (blocksOnMode old s).flk = s.flk ∧
    SameFluxInputs s (blocksOnMode old s) ∧ (blocksOnMode old s).phc.periodStart = s.phc.periodStart ∧
    (blocksOnMode old s).phc.nextPeriod = s.phc.nextPeriod ∧ (blocksOnMode old s).phc.pyro = s.phc.pyro ∧
    SamePtcButPumps s (blocksOnMode old s) ∧ (blocksOnMode old s).exm = s.exm ∧
    (blocksOnMode old s).pending = s.pending := by
  unfold blocksOnMode; (try dsimp only) <;> (repeat' split) <;> simp

@[simp] theorem changeMode_keeps (m : Mode) (s : State) :
    OnlyModeActs s (changeMode m s) ∧ (changeMode m s).cvt.reference = s.cvt.reference ∧
    (changeMode m s).cvt.stall = s.cvt.stall ∧ (changeMode m s).amc.finish = s.amc.finish ∧
    (changeMode m s).amc.changeover = s.amc.changeover := by
  unfold changeMode; (try dsimp only) <;> (repeat' split) <;> simp

@[simp] theorem replyActive_keeps (c : CellNo) (s : State) : OnlyRecords s (replyActive c s) := by
  unfold replyActive; simp

@[simp] theorem endChangeover_keeps (result : RequestResult) (s : State) :
    SameHpx s (endChangeover result s) ∧ (endChangeover result s).dkc = s.dkc ∧ (endChangeover result s).cvt = s.cvt
    ∧ SameAmcButMode s (endChangeover result s) ∧ (endChangeover result s).amc.mode = s.amc.mode ∧
    (endChangeover result s).amc.finish = s.amc.finish ∧ (endChangeover result s).tlk = s.tlk ∧
    (endChangeover result s).flk = s.flk ∧ SameFluxInputs s (endChangeover result s) ∧
    (endChangeover result s).phc = s.phc ∧ (endChangeover result s).ptc = s.ptc ∧
    (endChangeover result s).exm = s.exm ∧ (endChangeover result s).pending = s.pending := by
  unfold endChangeover; (try dsimp only) <;> (repeat' split) <;> simp

@[simp] theorem blocksOnSwitch_keeps (s : State) :
    SameHpx s (blocksOnSwitch s) ∧ (blocksOnSwitch s).dkc = s.dkc ∧ SameCvtButDrive s (blocksOnSwitch s) ∧
    (blocksOnSwitch s).cvt.reference = s.cvt.reference ∧ (blocksOnSwitch s).cvt.stall = s.cvt.stall ∧
    (blocksOnSwitch s).cvt.downstream = s.cvt.downstream ∧ SameAmc s (blocksOnSwitch s) ∧
    (blocksOnSwitch s).tlk = s.tlk ∧ (blocksOnSwitch s).flk = s.flk ∧ SameFluxInputs s (blocksOnSwitch s) ∧
    (blocksOnSwitch s).phc.periodStart = s.phc.periodStart ∧ (blocksOnSwitch s).phc.nextPeriod = s.phc.nextPeriod ∧
    (blocksOnSwitch s).phc.pyro = s.phc.pyro ∧ SamePtcButPumps s (blocksOnSwitch s) ∧ (blocksOnSwitch s).exm = s.exm
    ∧ (blocksOnSwitch s).pending = s.pending := by
  unfold blocksOnSwitch; (try dsimp only) <;> (repeat' split) <;> simp

@[simp] theorem switchProfile_keeps (c : Changeover) (s : State) :
    SameHpx s (switchProfile c s) ∧ (switchProfile c s).dkc = s.dkc ∧ SameCvtButDrive s (switchProfile c s) ∧
    (switchProfile c s).cvt.reference = s.cvt.reference ∧ (switchProfile c s).cvt.stall = s.cvt.stall ∧
    (switchProfile c s).cvt.downstream = s.cvt.downstream ∧ SameAmcButProfile s (switchProfile c s) ∧
    (switchProfile c s).amc.mode = s.amc.mode ∧ (switchProfile c s).amc.finish = s.amc.finish ∧
    (switchProfile c s).tlk = s.tlk ∧ (switchProfile c s).flk = s.flk ∧ SameFluxInputs s (switchProfile c s) ∧
    (switchProfile c s).phc.periodStart = s.phc.periodStart ∧ (switchProfile c s).phc.nextPeriod = s.phc.nextPeriod
    ∧ (switchProfile c s).phc.pyro = s.phc.pyro ∧ SamePtcButPumps s (switchProfile c s) ∧
    (switchProfile c s).exm = s.exm ∧ (switchProfile c s).pending = s.pending := by
  unfold switchProfile; (try dsimp only) <;> (repeat' split) <;> simp

@[simp] theorem switchIfDraining_keeps (s : State) :
    SameHpx s (switchIfDraining s) ∧ (switchIfDraining s).dkc = s.dkc ∧ SameCvtButDrive s (switchIfDraining s) ∧
    (switchIfDraining s).cvt.reference = s.cvt.reference ∧ (switchIfDraining s).cvt.stall = s.cvt.stall ∧
    (switchIfDraining s).cvt.downstream = s.cvt.downstream ∧ SameAmcButProfile s (switchIfDraining s) ∧
    (switchIfDraining s).amc.mode = s.amc.mode ∧ (switchIfDraining s).amc.finish = s.amc.finish ∧
    (switchIfDraining s).tlk = s.tlk ∧ (switchIfDraining s).flk = s.flk ∧ SameFluxInputs s (switchIfDraining s) ∧
    (switchIfDraining s).phc.periodStart = s.phc.periodStart ∧
    (switchIfDraining s).phc.nextPeriod = s.phc.nextPeriod ∧ (switchIfDraining s).phc.pyro = s.phc.pyro ∧
    SamePtcButPumps s (switchIfDraining s) ∧ (switchIfDraining s).exm = s.exm ∧
    (switchIfDraining s).pending = s.pending := by
  unfold switchIfDraining; (try dsimp only) <;> (repeat' split) <;> simp

@[simp] theorem changeoverComplete_keeps (s : State) :
    SameHpx s (changeoverComplete s) ∧ (changeoverComplete s).dkc = s.dkc ∧ (changeoverComplete s).cvt = s.cvt ∧
    SameAmcButMode s (changeoverComplete s) ∧ (changeoverComplete s).amc.mode = s.amc.mode ∧
    (changeoverComplete s).amc.finish = s.amc.finish ∧ (changeoverComplete s).tlk = s.tlk ∧
    (changeoverComplete s).flk = s.flk ∧ SameFluxInputs s (changeoverComplete s) ∧
    (changeoverComplete s).phc = s.phc ∧ (changeoverComplete s).ptc = s.ptc ∧ (changeoverComplete s).exm = s.exm ∧
    (changeoverComplete s).pending = s.pending := by
  unfold changeoverComplete; (try dsimp only) <;> (repeat' split) <;> simp

@[simp] theorem changeoverTimeout_keeps (s : State) :
    SameHpx s (changeoverTimeout s) ∧ (changeoverTimeout s).dkc = s.dkc ∧ (changeoverTimeout s).cvt = s.cvt ∧
    SameAmcButMode s (changeoverTimeout s) ∧ (changeoverTimeout s).amc.mode = s.amc.mode ∧
    (changeoverTimeout s).amc.finish = s.amc.finish ∧ (changeoverTimeout s).tlk = s.tlk ∧
    (changeoverTimeout s).flk = s.flk ∧ SameFluxInputs s (changeoverTimeout s) ∧ (changeoverTimeout s).phc = s.phc ∧
    (changeoverTimeout s).ptc = s.ptc ∧ (changeoverTimeout s).exm = s.exm ∧
    (changeoverTimeout s).pending = s.pending := by
  unfold changeoverTimeout; (try dsimp only) <;> (repeat' split) <;> simp

@[simp] theorem endFinish_keeps (result : RequestResult) (s : State) :
    SameHpx s (endFinish result s) ∧ (endFinish result s).dkc = s.dkc ∧ (endFinish result s).cvt = s.cvt ∧
    SameAmcButMode s (endFinish result s) ∧ (endFinish result s).amc.mode = s.amc.mode ∧
    (endFinish result s).amc.alarms = s.amc.alarms ∧ (endFinish result s).amc.changeover = s.amc.changeover ∧
    (endFinish result s).cta = s.cta ∧ (endFinish result s).tlk = s.tlk ∧ (endFinish result s).flk = s.flk ∧
    (endFinish result s).fxc = s.fxc ∧ (endFinish result s).phc = s.phc ∧ (endFinish result s).ptc = s.ptc ∧
    (endFinish result s).exm = s.exm ∧ (endFinish result s).free = s.free ∧ (endFinish result s).pending = s.pending := by
  unfold endFinish; (try dsimp only) <;> (repeat' split) <;> simp

@[simp] theorem finishComplete_keeps (s : State) :
    OnlyModeActs s (finishComplete s) ∧ (finishComplete s).cvt.reference = s.cvt.reference ∧
    (finishComplete s).cvt.stall = s.cvt.stall ∧ (finishComplete s).amc.changeover = s.amc.changeover := by
  unfold finishComplete; (try dsimp only) <;> (repeat' split) <;> simp

@[simp] theorem mapEmptied_keeps (cause : EmptyCause) (s : State) :
    SameHpx s (mapEmptied cause s) ∧ (mapEmptied cause s).dkc = s.dkc ∧ SameCvtButDrive s (mapEmptied cause s) ∧
    (mapEmptied cause s).cvt.reference = s.cvt.reference ∧ (mapEmptied cause s).cvt.stall = s.cvt.stall ∧
    SameAmcButProfile s (mapEmptied cause s) ∧ (mapEmptied cause s).tlk = s.tlk ∧ (mapEmptied cause s).flk = s.flk ∧
    SameFluxInputs s (mapEmptied cause s) ∧ (mapEmptied cause s).phc.periodStart = s.phc.periodStart ∧
    (mapEmptied cause s).phc.nextPeriod = s.phc.nextPeriod ∧ (mapEmptied cause s).phc.pyro = s.phc.pyro ∧
    SamePtcButPumps s (mapEmptied cause s) ∧ (mapEmptied cause s).exm = s.exm ∧
    (mapEmptied cause s).pending = s.pending := by
  unfold mapEmptied; (try dsimp only) <;> (repeat' split) <;> simp

@[simp] theorem markSafeDuring_keeps (s : State) :
    OnlyRecords s (markSafeDuring s) := by
  unfold markSafeDuring; (try dsimp only) <;> (repeat' split) <;> simp

@[simp] theorem enterSafe_keeps (s : State) :
    OnlyModeActs s (enterSafe s) ∧ (enterSafe s).cvt.reference = s.cvt.reference ∧
    (enterSafe s).cvt.stall = s.cvt.stall := by
  unfold enterSafe; (try dsimp only) <;> (repeat' split) <;> simp

@[simp] theorem safeIfOut_keeps (s : State) :
    OnlyModeActs s (safeIfOut s) ∧ (safeIfOut s).cvt.reference = s.cvt.reference ∧
    (safeIfOut s).cvt.stall = s.cvt.stall := by
  unfold safeIfOut; (try dsimp only) <;> (repeat' split) <;> simp

@[simp] theorem afterAlarm_keeps (before : Bool) (s : State) :
    OnlyModeActs s (afterAlarm before s) := by
  unfold afterAlarm; (try dsimp only) <;> (repeat' split) <;> simp

@[simp] theorem raiseAny_keeps (a : Alarm) (detail : Half) (docket : Option DocketNo) (s : State) :
    OnlyModeActs s (raiseAny a detail docket s) := by
  unfold raiseAny; (try dsimp only) <;> (repeat' split) <;> simp

@[simp] theorem pulseAny_keeps (a : Alarm) (detail : Half) (docket : Option DocketNo) (s : State) :
    OnlyModeActs s (pulseAny a detail docket s) := by
  unfold pulseAny; (try dsimp only) <;> (repeat' split) <;> simp

@[simp] theorem clearAny_keeps (a : Alarm) (s : State) :
    OnlyModeActs s (clearAny a s) := by
  unfold clearAny; (try dsimp only) <;> (repeat' split) <;> simp

@[simp] theorem judgeAny_keeps (a : Alarm) (holds : Bool) (detail : Half) (s : State) :
    OnlyModeActs s (judgeAny a holds detail s) := by
  unfold judgeAny; (try dsimp only) <;> (repeat' split) <;> simp

@[simp] theorem judgeOvertemp_keeps (z : ZoneNo) (s : State) :
    OnlyModeActs s (judgeOvertemp z s) := by
  unfold judgeOvertemp; (try dsimp only) <;> (repeat' split) <;> simp

@[simp] theorem zoneNotice_keeps (z : ZoneNo) (n : ThermoNotice) (s : State) :
    OnlyZones s (zoneNotice z n s) := by
  unfold zoneNotice; (try dsimp only) <;> (repeat' split) <;> simp

@[simp] theorem zoneGood_keeps (z : ZoneNo) (t : Int) (s : State) :
    OnlyZones s (zoneGood z t s) := by
  unfold zoneGood; (try dsimp only) <;> (repeat' split) <;> simp

@[simp] theorem zoneFrame_keeps (z : ZoneNo) (n : ThermoNotice) (good : Option Half) (s : State) :
    OnlyModeActs s (zoneFrame z n good s) := by
  unfold zoneFrame; (try dsimp only) <;> (repeat' split) <;> simp

@[simp] theorem potNotice_keeps (isA : Bool) (n : ThermoNotice) (s : State) :
    OnlyPtc s (potNotice isA n s) ∧ SamePtcButPumps s (potNotice isA n s) ∧
    (potNotice isA n s).ptc.chip = s.ptc.chip ∧ (potNotice isA n s).ptc.main = s.ptc.main ∧
    (potNotice isA n s).ptc.mainLeftRamping = s.ptc.mainLeftRamping ∧ (potNotice isA n s).ptc.feeder = s.ptc.feeder
    ∧ (potNotice isA n s).ptc.feedTimer = s.ptc.feedTimer ∧ (potNotice isA n s).ptc.calibrate = s.ptc.calibrate ∧
    (potNotice isA n s).ptc.feed = s.ptc.feed := by
  unfold potNotice; (try dsimp only) <;> (repeat' split) <;> simp

@[simp] theorem judgeDisagreement_keeps (s : State) :
    OnlyPtc s (judgeDisagreement s) ∧ SamePtcButPumps s (judgeDisagreement s) ∧
    (judgeDisagreement s).ptc.chip = s.ptc.chip ∧ (judgeDisagreement s).ptc.main = s.ptc.main ∧
    (judgeDisagreement s).ptc.mainLeftRamping = s.ptc.mainLeftRamping ∧
    (judgeDisagreement s).ptc.feeder = s.ptc.feeder ∧ (judgeDisagreement s).ptc.feedTimer = s.ptc.feedTimer ∧
    (judgeDisagreement s).ptc.calibrate = s.ptc.calibrate ∧ (judgeDisagreement s).ptc.feed = s.ptc.feed := by
  unfold judgeDisagreement; (try dsimp only) <;> (repeat' split) <;> simp

@[simp] theorem followPotSensor_keeps (before : Bool) (s : State) :
    OnlyPot s (followPotSensor before s) := by
  unfold followPotSensor; (try dsimp only) <;> (repeat' split) <;> simp

@[simp] theorem judgePotSensor_keeps (s : State) :
    OnlyModeActs s (judgePotSensor s) := by
  unfold judgePotSensor; (try dsimp only) <;> (repeat' split) <;> simp

@[simp] theorem judgePotHeat_keeps (b : Int) (s : State) :
    OnlyPtc s (judgePotHeat b s) ∧ SamePtcButPumps s (judgePotHeat b s) ∧ (judgePotHeat b s).ptc.chip = s.ptc.chip ∧
    (judgePotHeat b s).ptc.main = s.ptc.main ∧ (judgePotHeat b s).ptc.mainLeftRamping = s.ptc.mainLeftRamping ∧
    (judgePotHeat b s).ptc.feeder = s.ptc.feeder ∧ (judgePotHeat b s).ptc.feedTimer = s.ptc.feedTimer ∧
    (judgePotHeat b s).ptc.calibrate = s.ptc.calibrate ∧ (judgePotHeat b s).ptc.feed = s.ptc.feed := by
  unfold judgePotHeat; (try dsimp only) <;> (repeat' split) <;> simp

@[simp] theorem judgePotOvertemp_keeps (s : State) :
    OnlyModeActs s (judgePotOvertemp s) := by
  unfold judgePotOvertemp; (try dsimp only) <;> (repeat' split) <;> simp

@[simp] theorem potAGood_keeps (a : Int) (s : State) :
    OnlyPot s (potAGood a s) := by
  unfold potAGood; (try dsimp only) <;> (repeat' split) <;> simp

@[simp] theorem potFrame_keeps (isA : Bool) (n : ThermoNotice) (good : Option Half) (s : State) :
    OnlyModeActs s (potFrame isA n good s) := by
  unfold potFrame; (try dsimp only) <;> (repeat' split) <;> simp

@[simp] theorem roundStart_keeps (s : State) :
    (roundStart s).hpx = s.hpx ∧ (roundStart s).dkc = s.dkc ∧ (roundStart s).cvt = s.cvt ∧
    (roundStart s).amc = s.amc ∧ (roundStart s).cta = s.cta ∧ (roundStart s).tlk.channels = s.tlk.channels ∧
    (roundStart s).flk = s.flk ∧ (roundStart s).fxc = s.fxc ∧ (roundStart s).phc = s.phc ∧
    (roundStart s).ptc = s.ptc ∧ (roundStart s).exm = s.exm ∧ (roundStart s).xm = s.xm ∧
    (roundStart s).free = s.free ∧ (roundStart s).pending = s.pending := by
  unfold roundStart; (try dsimp only) <;> (repeat' split) <;> simp

@[simp] theorem handFrame_keeps (c : Fin 8) (n : ThermoNotice) (good : Option Half) (s : State) :
    OnlyModeActs s (handFrame c n good s) := by
  unfold handFrame; (try dsimp only) <;> (repeat' split) <;> simp

@[simp] theorem pollStart_keeps (s : State) :
    (pollStart s).hpx = s.hpx ∧ (pollStart s).dkc = s.dkc ∧ (pollStart s).cvt = s.cvt ∧ (pollStart s).amc = s.amc ∧
    (pollStart s).cta = s.cta ∧ (pollStart s).tlk = s.tlk ∧ (pollStart s).flk.duct = s.flk.duct ∧
    (pollStart s).flk.filter = s.flk.filter ∧ (pollStart s).fxc = s.fxc ∧ (pollStart s).phc = s.phc ∧
    (pollStart s).ptc = s.ptc ∧ (pollStart s).exm = s.exm ∧ (pollStart s).xm = s.xm ∧ (pollStart s).free = s.free ∧
    (pollStart s).pending = s.pending := by
  unfold pollStart; (try dsimp only) <;> (repeat' split) <;> simp

@[simp] theorem putFume_keeps (sensor : FumeSensor) (c : FumeChannel) (s : State) :
    (putFume sensor c s).hpx = s.hpx ∧ (putFume sensor c s).dkc = s.dkc ∧ (putFume sensor c s).cvt = s.cvt ∧
    (putFume sensor c s).amc = s.amc ∧ (putFume sensor c s).cta = s.cta ∧ (putFume sensor c s).tlk = s.tlk ∧
    (putFume sensor c s).flk.poll = s.flk.poll ∧ (putFume sensor c s).flk.nextPoll = s.flk.nextPoll ∧
    (putFume sensor c s).fxc = s.fxc ∧ (putFume sensor c s).phc = s.phc ∧ (putFume sensor c s).ptc = s.ptc ∧
    (putFume sensor c s).exm = s.exm ∧ (putFume sensor c s).xm = s.xm ∧ (putFume sensor c s).free = s.free ∧
    (putFume sensor c s).pending = s.pending := by
  unfold putFume; (try dsimp only) <;> (repeat' split) <;> simp

@[simp] theorem handLink_keeps (sensor : FumeSensor) (n : LinkNotice) (s : State) :
    SameHpx s (handLink sensor n s) ∧ (handLink sensor n s).dkc = s.dkc ∧ (handLink sensor n s).cvt = s.cvt ∧
    SameAmc s (handLink sensor n s) ∧ (handLink sensor n s).tlk = s.tlk ∧ (handLink sensor n s).flk = s.flk ∧
    SameFluxInputs s (handLink sensor n s) ∧ (handLink sensor n s).phc = s.phc ∧ (handLink sensor n s).ptc = s.ptc ∧
    (handLink sensor n s).exm.fanOn = s.exm.fanOn ∧ (handLink sensor n s).exm.runOn = s.exm.runOn ∧
    (handLink sensor n s).exm.suppression = s.exm.suppression ∧
    (handLink sensor n s).exm.airflowLow = s.exm.airflowLow ∧
    (handLink sensor n s).exm.airflowLost = s.exm.airflowLost ∧
    (handLink sensor n s).exm.filterLoaded = s.exm.filterLoaded ∧
    (handLink sensor n s).exm.filterClogged = s.exm.filterClogged ∧
    (handLink sensor n s).exm.fanStall = s.exm.fanStall ∧ (handLink sensor n s).exm.stallTimer = s.exm.stallTimer ∧
    (handLink sensor n s).exm.clearTimer = s.exm.clearTimer ∧ (handLink sensor n s).exm.ductDp = s.exm.ductDp ∧
    (handLink sensor n s).exm.filterDp = s.exm.filterDp ∧ (handLink sensor n s).exm.fanRpm = s.exm.fanRpm ∧
    (handLink sensor n s).free = s.free ∧ (handLink sensor n s).pending = s.pending := by
  unfold handLink; (try dsimp only) <;> (repeat' split) <;> simp

@[simp] theorem toClaimant_keeps (c : CountUnit) (status : ResultStatus) (value : Nat) (s : State) :
    SameHpx s (toClaimant c status value s) ∧ (toClaimant c status value s).dkc = s.dkc ∧
    (toClaimant c status value s).cvt = s.cvt ∧ SameAmc s (toClaimant c status value s) ∧
    (toClaimant c status value s).tlk = s.tlk ∧ (toClaimant c status value s).flk = s.flk ∧
    SameFluxInputs s (toClaimant c status value s) ∧ (toClaimant c status value s).phc.zones = s.phc.zones ∧
    (toClaimant c status value s).phc.periodStart = s.phc.periodStart ∧
    (toClaimant c status value s).phc.nextPeriod = s.phc.nextPeriod ∧
    (toClaimant c status value s).ptc.pot = s.ptc.pot ∧
    (toClaimant c status value s).ptc.potPeriodStart = s.ptc.potPeriodStart ∧
    (toClaimant c status value s).ptc.nextPotPeriod = s.ptc.nextPotPeriod ∧
    (toClaimant c status value s).ptc.nextRamp = s.ptc.nextRamp ∧
    (toClaimant c status value s).ptc.nextEcho = s.ptc.nextEcho ∧
    (toClaimant c status value s).exm.fanOn = s.exm.fanOn ∧ (toClaimant c status value s).exm.runOn = s.exm.runOn ∧
    (toClaimant c status value s).exm.state = s.exm.state ∧
    (toClaimant c status value s).exm.suppression = s.exm.suppression ∧
    (toClaimant c status value s).exm.airflowLow = s.exm.airflowLow ∧
    (toClaimant c status value s).exm.airflowLost = s.exm.airflowLost ∧
    (toClaimant c status value s).exm.filterLoaded = s.exm.filterLoaded ∧
    (toClaimant c status value s).exm.filterClogged = s.exm.filterClogged ∧
    (toClaimant c status value s).exm.fanStall = s.exm.fanStall ∧
    (toClaimant c status value s).exm.linkDuct = s.exm.linkDuct ∧
    (toClaimant c status value s).exm.linkFilter = s.exm.linkFilter ∧
    (toClaimant c status value s).exm.sensorLink = s.exm.sensorLink ∧
    (toClaimant c status value s).exm.grace = s.exm.grace ∧ (toClaimant c status value s).exm.ductDp = s.exm.ductDp
    ∧ (toClaimant c status value s).exm.filterDp = s.exm.filterDp ∧
    (toClaimant c status value s).pending = s.pending := by
  unfold toClaimant; (try dsimp only) <;> (repeat' split) <;> simp

@[simp] theorem endUnit_keeps (u : UnitNo) (c : CountUnit) (status : ResultStatus) (value : Option Nat) (s : State) :
    SameHpx s (endUnit u c status value s) ∧ (endUnit u c status value s).dkc = s.dkc ∧
    (endUnit u c status value s).cvt = s.cvt ∧ SameAmc s (endUnit u c status value s) ∧
    (endUnit u c status value s).tlk = s.tlk ∧ (endUnit u c status value s).flk = s.flk ∧
    SameFluxInputs s (endUnit u c status value s) ∧ (endUnit u c status value s).phc.zones = s.phc.zones ∧
    (endUnit u c status value s).phc.periodStart = s.phc.periodStart ∧
    (endUnit u c status value s).phc.nextPeriod = s.phc.nextPeriod ∧
    (endUnit u c status value s).ptc.pot = s.ptc.pot ∧
    (endUnit u c status value s).ptc.potPeriodStart = s.ptc.potPeriodStart ∧
    (endUnit u c status value s).ptc.nextPotPeriod = s.ptc.nextPotPeriod ∧
    (endUnit u c status value s).ptc.nextRamp = s.ptc.nextRamp ∧
    (endUnit u c status value s).ptc.nextEcho = s.ptc.nextEcho ∧
    (endUnit u c status value s).exm.fanOn = s.exm.fanOn ∧ (endUnit u c status value s).exm.runOn = s.exm.runOn ∧
    (endUnit u c status value s).exm.state = s.exm.state ∧
    (endUnit u c status value s).exm.suppression = s.exm.suppression ∧
    (endUnit u c status value s).exm.airflowLow = s.exm.airflowLow ∧
    (endUnit u c status value s).exm.airflowLost = s.exm.airflowLost ∧
    (endUnit u c status value s).exm.filterLoaded = s.exm.filterLoaded ∧
    (endUnit u c status value s).exm.filterClogged = s.exm.filterClogged ∧
    (endUnit u c status value s).exm.fanStall = s.exm.fanStall ∧
    (endUnit u c status value s).exm.linkDuct = s.exm.linkDuct ∧
    (endUnit u c status value s).exm.linkFilter = s.exm.linkFilter ∧
    (endUnit u c status value s).exm.sensorLink = s.exm.sensorLink ∧
    (endUnit u c status value s).exm.grace = s.exm.grace ∧ (endUnit u c status value s).exm.ductDp = s.exm.ductDp ∧
    (endUnit u c status value s).exm.filterDp = s.exm.filterDp ∧ (endUnit u c status value s).pending = s.pending := by
  unfold endUnit; (try dsimp only) <;> (repeat' split) <;> simp

@[simp] theorem gateOpen_keeps (u : UnitNo) (s : State) :
    OnlyCta s (gateOpen u s) ∧ (gateOpen u s).cta.queue = s.cta.queue ∧ (gateOpen u s).cta.results = s.cta.results ∧
    (gateOpen u s).cta.measure = s.cta.measure ∧ (gateOpen u s).cta.echoTrigs = s.cta.echoTrigs := by
  unfold gateOpen; (try dsimp only) <;> (repeat' split) <;> simp

@[simp] theorem gateClose_keeps (u : UnitNo) (s : State) :
    SameHpx s (gateClose u s) ∧ (gateClose u s).dkc = s.dkc ∧ (gateClose u s).cvt = s.cvt ∧
    SameAmc s (gateClose u s) ∧ (gateClose u s).tlk = s.tlk ∧ (gateClose u s).flk = s.flk ∧
    SameFluxInputs s (gateClose u s) ∧ (gateClose u s).phc.zones = s.phc.zones ∧
    (gateClose u s).phc.periodStart = s.phc.periodStart ∧ (gateClose u s).phc.nextPeriod = s.phc.nextPeriod ∧
    (gateClose u s).ptc.pot = s.ptc.pot ∧ (gateClose u s).ptc.potPeriodStart = s.ptc.potPeriodStart ∧
    (gateClose u s).ptc.nextPotPeriod = s.ptc.nextPotPeriod ∧ (gateClose u s).ptc.nextRamp = s.ptc.nextRamp ∧
    (gateClose u s).ptc.nextEcho = s.ptc.nextEcho ∧ (gateClose u s).exm.fanOn = s.exm.fanOn ∧
    (gateClose u s).exm.runOn = s.exm.runOn ∧ (gateClose u s).exm.state = s.exm.state ∧
    (gateClose u s).exm.suppression = s.exm.suppression ∧ (gateClose u s).exm.airflowLow = s.exm.airflowLow ∧
    (gateClose u s).exm.airflowLost = s.exm.airflowLost ∧ (gateClose u s).exm.filterLoaded = s.exm.filterLoaded ∧
    (gateClose u s).exm.filterClogged = s.exm.filterClogged ∧ (gateClose u s).exm.fanStall = s.exm.fanStall ∧
    (gateClose u s).exm.linkDuct = s.exm.linkDuct ∧ (gateClose u s).exm.linkFilter = s.exm.linkFilter ∧
    (gateClose u s).exm.sensorLink = s.exm.sensorLink ∧ (gateClose u s).exm.grace = s.exm.grace ∧
    (gateClose u s).exm.ductDp = s.exm.ductDp ∧ (gateClose u s).exm.filterDp = s.exm.filterDp ∧
    (gateClose u s).pending = s.pending := by
  unfold gateClose; (try dsimp only) <;> (repeat' split) <;> simp

@[simp] theorem endNoEdge_keeps (src : Source) (s : State) :
    SameHpx s (endNoEdge src s) ∧ (endNoEdge src s).dkc = s.dkc ∧ (endNoEdge src s).cvt = s.cvt ∧
    SameAmc s (endNoEdge src s) ∧ (endNoEdge src s).tlk = s.tlk ∧ (endNoEdge src s).flk = s.flk ∧
    SameFluxInputs s (endNoEdge src s) ∧ (endNoEdge src s).phc.zones = s.phc.zones ∧
    (endNoEdge src s).phc.periodStart = s.phc.periodStart ∧ (endNoEdge src s).phc.nextPeriod = s.phc.nextPeriod ∧
    (endNoEdge src s).ptc.pot = s.ptc.pot ∧ (endNoEdge src s).ptc.potPeriodStart = s.ptc.potPeriodStart ∧
    (endNoEdge src s).ptc.nextPotPeriod = s.ptc.nextPotPeriod ∧ (endNoEdge src s).ptc.nextRamp = s.ptc.nextRamp ∧
    (endNoEdge src s).ptc.nextEcho = s.ptc.nextEcho ∧ (endNoEdge src s).exm.fanOn = s.exm.fanOn ∧
    (endNoEdge src s).exm.runOn = s.exm.runOn ∧ (endNoEdge src s).exm.state = s.exm.state ∧
    (endNoEdge src s).exm.suppression = s.exm.suppression ∧ (endNoEdge src s).exm.airflowLow = s.exm.airflowLow ∧
    (endNoEdge src s).exm.airflowLost = s.exm.airflowLost ∧ (endNoEdge src s).exm.filterLoaded = s.exm.filterLoaded
    ∧ (endNoEdge src s).exm.filterClogged = s.exm.filterClogged ∧ (endNoEdge src s).exm.fanStall = s.exm.fanStall ∧
    (endNoEdge src s).exm.linkDuct = s.exm.linkDuct ∧ (endNoEdge src s).exm.linkFilter = s.exm.linkFilter ∧
    (endNoEdge src s).exm.sensorLink = s.exm.sensorLink ∧ (endNoEdge src s).exm.grace = s.exm.grace ∧
    (endNoEdge src s).exm.ductDp = s.exm.ductDp ∧ (endNoEdge src s).exm.filterDp = s.exm.filterDp ∧
    (endNoEdge src s).pending = s.pending := by
  unfold endNoEdge; (try dsimp only) <;> (repeat' split) <;> simp

@[simp] theorem endOver_keeps (src : Source) (s : State) :
    SameHpx s (endOver src s) ∧ (endOver src s).dkc = s.dkc ∧ (endOver src s).cvt = s.cvt ∧
    SameAmc s (endOver src s) ∧ (endOver src s).tlk = s.tlk ∧ (endOver src s).flk = s.flk ∧
    SameFluxInputs s (endOver src s) ∧ (endOver src s).phc.zones = s.phc.zones ∧
    (endOver src s).phc.periodStart = s.phc.periodStart ∧ (endOver src s).phc.nextPeriod = s.phc.nextPeriod ∧
    (endOver src s).ptc.pot = s.ptc.pot ∧ (endOver src s).ptc.potPeriodStart = s.ptc.potPeriodStart ∧
    (endOver src s).ptc.nextPotPeriod = s.ptc.nextPotPeriod ∧ (endOver src s).ptc.nextRamp = s.ptc.nextRamp ∧
    (endOver src s).ptc.nextEcho = s.ptc.nextEcho ∧ (endOver src s).exm.fanOn = s.exm.fanOn ∧
    (endOver src s).exm.runOn = s.exm.runOn ∧ (endOver src s).exm.state = s.exm.state ∧
    (endOver src s).exm.suppression = s.exm.suppression ∧ (endOver src s).exm.airflowLow = s.exm.airflowLow ∧
    (endOver src s).exm.airflowLost = s.exm.airflowLost ∧ (endOver src s).exm.filterLoaded = s.exm.filterLoaded ∧
    (endOver src s).exm.filterClogged = s.exm.filterClogged ∧ (endOver src s).exm.fanStall = s.exm.fanStall ∧
    (endOver src s).exm.linkDuct = s.exm.linkDuct ∧ (endOver src s).exm.linkFilter = s.exm.linkFilter ∧
    (endOver src s).exm.sensorLink = s.exm.sensorLink ∧ (endOver src s).exm.grace = s.exm.grace ∧
    (endOver src s).exm.ductDp = s.exm.ductDp ∧ (endOver src s).exm.filterDp = s.exm.filterDp ∧
    (endOver src s).pending = s.pending := by
  unfold endOver; (try dsimp only) <;> (repeat' split) <;> simp

@[simp] theorem openExpiry_keeps (s : State) :
    OnlyClaims s (openExpiry s) := by
  unfold openExpiry; (try dsimp only) <;> (repeat' split) <;> simp

end Sys2Proof.Machine
end

