-- ==== Sys2Proof/Laws/LineFrames.lean ====
section
/-! SUPPORT. Frames of the docket controller, the conveyor, the resets, the host port, the rulings and the clock. -/

namespace Sys2Proof.Machine

@[simp] theorem changeEntry_keeps (board : Word) (f : MapEntry → MapEntry) (s : State) :
    OnlyCvt s (changeEntry board f s) ∧ SameBelt s (changeEntry board f s) ∧
    (changeEntry board f s).cvt.drive = s.cvt.drive ∧ (changeEntry board f s).cvt.reference = s.cvt.reference ∧
    (changeEntry board f s).cvt.target = s.cvt.target ∧ (changeEntry board f s).cvt.stall = s.cvt.stall ∧
    (changeEntry board f s).cvt.entryTracked = s.cvt.entryTracked ∧
    (changeEntry board f s).cvt.exitEdge = s.cvt.exitEdge ∧
    (changeEntry board f s).cvt.downstream = s.cvt.downstream := by
  unfold changeEntry; (try dsimp only) <;> (repeat' split) <;> simp

@[simp] theorem nameEntry_keeps (board : Word) (d : DocketNo) (s : State) :
    OnlyCvt s (nameEntry board d s) ∧ SameBelt s (nameEntry board d s) ∧
    (nameEntry board d s).cvt.drive = s.cvt.drive ∧ (nameEntry board d s).cvt.reference = s.cvt.reference ∧
    (nameEntry board d s).cvt.target = s.cvt.target ∧ (nameEntry board d s).cvt.stall = s.cvt.stall ∧
    (nameEntry board d s).cvt.entryTracked = s.cvt.entryTracked ∧
    (nameEntry board d s).cvt.exitEdge = s.cvt.exitEdge ∧
    (nameEntry board d s).cvt.downstream = s.cvt.downstream := by
  unfold nameEntry; (try dsimp only) <;> (repeat' split) <;> simp

@[simp] theorem nameBoard_length (board : Word) (d : DocketNo) (l : List MapEntry) :
    (nameBoard board d l).length = l.length := by
  induction l with
  | nil => rfl
  | cons e l ih => unfold nameBoard; split <;> simp [ih]

/-- Naming a board changes no entry's position (R63). -/
@[simp] theorem nameBoard_tLead (board : Word) (d : DocketNo) (l : List MapEntry) :
    (nameBoard board d l).map (·.tLead) = l.map (·.tLead) := by
  induction l with
  | nil => rfl
  | cons e l ih => unfold nameBoard; split <;> simp [ih]

/-- An entry after a naming is the named one or stood before. -/
theorem mem_nameBoard {board : Word} {d : DocketNo} {l : List MapEntry} {e : MapEntry}
    (h : e ∈ nameBoard board d l) : e.docket = some d ∨ e ∈ l := by
  induction l with
  | nil => exact Or.inr h
  | cons a l ih =>
    unfold nameBoard at h
    split at h
    · rcases List.mem_cons.mp h with rfl | h
      · exact Or.inl rfl
      · exact Or.inr (List.mem_cons_of_mem _ h)
    · rcases List.mem_cons.mp h with rfl | h
      · exact Or.inr List.mem_cons_self
      · exact (ih h).imp id (List.mem_cons_of_mem _)

@[simp] theorem checkLength_keeps (d : DocketNo) (len : Nat) (s : State) :
    SameHpxButParity s (checkLength d len s) ∧ (checkLength d len s).dkc = s.dkc ∧ (checkLength d len s).cvt = s.cvt
    ∧ SameAmc s (checkLength d len s) ∧ (checkLength d len s).cta = s.cta ∧ (checkLength d len s).tlk = s.tlk ∧
    (checkLength d len s).flk = s.flk ∧ (checkLength d len s).fxc = s.fxc ∧ (checkLength d len s).phc = s.phc ∧
    (checkLength d len s).ptc = s.ptc ∧ (checkLength d len s).exm = s.exm ∧ (checkLength d len s).free = s.free ∧
    (checkLength d len s).pending = s.pending := by
  unfold checkLength; (try dsimp only) <;> (repeat' split) <;> simp

@[simp] theorem leaveArrival_keeps (d : DocketNo) (s : State) :
    OnlyDkc s (leaveArrival d s) ∧ (leaveArrival d s).dkc.unannounced = s.dkc.unannounced ∧
    (leaveArrival d s).dkc.window = s.dkc.window ∧ (leaveArrival d s).dkc.buffer = s.dkc.buffer ∧
    (leaveArrival d s).dkc.bad = s.dkc.bad ∧ (leaveArrival d s).dkc.rxHeld = s.dkc.rxHeld ∧
    (leaveArrival d s).dkc.rxPast = s.dkc.rxPast := by
  unfold leaveArrival; (try dsimp only) <;> (repeat' split) <;> simp

@[simp] theorem matchWrites_keeps (e : MapEntry) (d : DocketNo) (unverified : Bool) (s : State) :
    (matchWrites e d unverified s).hpx = s.hpx ∧ (matchWrites e d unverified s).dkc.unannounced = s.dkc.unannounced
    ∧ (matchWrites e d unverified s).dkc.window = s.dkc.window ∧
    (matchWrites e d unverified s).dkc.buffer = s.dkc.buffer ∧ (matchWrites e d unverified s).dkc.bad = s.dkc.bad ∧
    (matchWrites e d unverified s).dkc.rxHeld = s.dkc.rxHeld ∧
    (matchWrites e d unverified s).dkc.rxPast = s.dkc.rxPast ∧ SameBelt s (matchWrites e d unverified s) ∧
    (matchWrites e d unverified s).cvt.drive = s.cvt.drive ∧
    (matchWrites e d unverified s).cvt.reference = s.cvt.reference ∧
    (matchWrites e d unverified s).cvt.target = s.cvt.target ∧
    (matchWrites e d unverified s).cvt.stall = s.cvt.stall ∧
    (matchWrites e d unverified s).cvt.entryTracked = s.cvt.entryTracked ∧
    (matchWrites e d unverified s).cvt.exitEdge = s.cvt.exitEdge ∧
    (matchWrites e d unverified s).cvt.downstream = s.cvt.downstream ∧ (matchWrites e d unverified s).amc = s.amc ∧
    (matchWrites e d unverified s).cta = s.cta ∧ (matchWrites e d unverified s).tlk = s.tlk ∧
    (matchWrites e d unverified s).flk = s.flk ∧ (matchWrites e d unverified s).fxc = s.fxc ∧
    (matchWrites e d unverified s).phc = s.phc ∧ (matchWrites e d unverified s).ptc = s.ptc ∧
    (matchWrites e d unverified s).exm = s.exm ∧ (matchWrites e d unverified s).free = s.free ∧
    (matchWrites e d unverified s).pending = s.pending := by
  unfold matchWrites; (try dsimp only) <;> (repeat' split) <;> simp

@[simp] theorem judgeProfile_keeps (d : DocketNo) (s : State) :
    SameHpxButParity s (judgeProfile d s) ∧ (judgeProfile d s).dkc = s.dkc ∧ (judgeProfile d s).cvt = s.cvt ∧
    SameAmc s (judgeProfile d s) ∧ (judgeProfile d s).cta = s.cta ∧ (judgeProfile d s).tlk = s.tlk ∧
    (judgeProfile d s).flk = s.flk ∧ (judgeProfile d s).fxc = s.fxc ∧ (judgeProfile d s).phc = s.phc ∧
    (judgeProfile d s).ptc = s.ptc ∧ (judgeProfile d s).exm = s.exm ∧ (judgeProfile d s).free = s.free ∧
    (judgeProfile d s).pending = s.pending := by
  unfold judgeProfile; (try dsimp only) <;> (repeat' split) <;> simp

@[simp] theorem matchBoard_keeps (board : Word) (d : DocketNo) (unverified : Bool) (s : State) :
    SameHpxButParity s (matchBoard board d unverified s) ∧
    (matchBoard board d unverified s).dkc.unannounced = s.dkc.unannounced ∧
    (matchBoard board d unverified s).dkc.window = s.dkc.window ∧
    (matchBoard board d unverified s).dkc.buffer = s.dkc.buffer ∧
    (matchBoard board d unverified s).dkc.bad = s.dkc.bad ∧
    (matchBoard board d unverified s).dkc.rxHeld = s.dkc.rxHeld ∧
    (matchBoard board d unverified s).dkc.rxPast = s.dkc.rxPast ∧ SameBelt s (matchBoard board d unverified s) ∧
    (matchBoard board d unverified s).cvt.drive = s.cvt.drive ∧
    (matchBoard board d unverified s).cvt.reference = s.cvt.reference ∧
    (matchBoard board d unverified s).cvt.target = s.cvt.target ∧
    (matchBoard board d unverified s).cvt.stall = s.cvt.stall ∧
    (matchBoard board d unverified s).cvt.entryTracked = s.cvt.entryTracked ∧
    (matchBoard board d unverified s).cvt.exitEdge = s.cvt.exitEdge ∧
    (matchBoard board d unverified s).cvt.downstream = s.cvt.downstream ∧
    SameAmc s (matchBoard board d unverified s) ∧ (matchBoard board d unverified s).cta = s.cta ∧
    (matchBoard board d unverified s).tlk = s.tlk ∧ (matchBoard board d unverified s).flk = s.flk ∧
    (matchBoard board d unverified s).fxc = s.fxc ∧ (matchBoard board d unverified s).phc = s.phc ∧
    (matchBoard board d unverified s).ptc = s.ptc ∧ (matchBoard board d unverified s).exm = s.exm ∧
    (matchBoard board d unverified s).free = s.free ∧ (matchBoard board d unverified s).pending = s.pending := by
  unfold matchBoard; (try dsimp only) <;> (repeat' split) <;> simp

@[simp] theorem setUnannounced_keeps (n : Nat) (s : State) :
    SameHpx s (setUnannounced n s) ∧ (setUnannounced n s).dkc.arrival = s.dkc.arrival ∧
    (setUnannounced n s).dkc.window = s.dkc.window ∧ (setUnannounced n s).dkc.buffer = s.dkc.buffer ∧
    (setUnannounced n s).dkc.bad = s.dkc.bad ∧ (setUnannounced n s).dkc.rxHeld = s.dkc.rxHeld ∧
    (setUnannounced n s).dkc.rxPast = s.dkc.rxPast ∧
    (setUnannounced n s).cvt = s.cvt ∧ SameAmc s (setUnannounced n s) ∧ (setUnannounced n s).tlk = s.tlk ∧
    (setUnannounced n s).flk = s.flk ∧ SameFluxInputs s (setUnannounced n s) ∧ (setUnannounced n s).phc = s.phc ∧
    (setUnannounced n s).ptc = s.ptc ∧ (setUnannounced n s).exm = s.exm ∧ (setUnannounced n s).free = s.free ∧
    (setUnannounced n s).pending = s.pending := by
  unfold setUnannounced; (try dsimp only) <;> (repeat' split) <;> simp

@[simp] theorem foundUnannounced_keeps (s : State) :
    SameHpx s (foundUnannounced s) ∧ (foundUnannounced s).dkc.arrival = s.dkc.arrival ∧
    (foundUnannounced s).dkc.window = s.dkc.window ∧ (foundUnannounced s).dkc.buffer = s.dkc.buffer ∧
    (foundUnannounced s).dkc.bad = s.dkc.bad ∧ (foundUnannounced s).dkc.rxHeld = s.dkc.rxHeld ∧
    (foundUnannounced s).dkc.rxPast = s.dkc.rxPast ∧
    (foundUnannounced s).cvt = s.cvt ∧ SameAmc s (foundUnannounced s) ∧ (foundUnannounced s).tlk = s.tlk ∧
    (foundUnannounced s).flk = s.flk ∧ SameFluxInputs s (foundUnannounced s) ∧ (foundUnannounced s).phc = s.phc ∧
    (foundUnannounced s).ptc = s.ptc ∧ (foundUnannounced s).exm = s.exm ∧ (foundUnannounced s).free = s.free ∧
    (foundUnannounced s).pending = s.pending := by
  unfold foundUnannounced; (try dsimp only) <;> (repeat' split) <;> simp

@[simp] theorem settleBoard_keeps (board : Word) (d : Option DocketNo) (unverified : Bool) (s : State) :
    SameHpxButParity s (settleBoard board d unverified s) ∧
    (settleBoard board d unverified s).dkc.window = s.dkc.window ∧
    (settleBoard board d unverified s).dkc.buffer = s.dkc.buffer ∧
    (settleBoard board d unverified s).dkc.bad = s.dkc.bad ∧
    (settleBoard board d unverified s).dkc.rxHeld = s.dkc.rxHeld ∧
    (settleBoard board d unverified s).dkc.rxPast = s.dkc.rxPast ∧ SameBelt s (settleBoard board d unverified s) ∧
    (settleBoard board d unverified s).cvt.drive = s.cvt.drive ∧
    (settleBoard board d unverified s).cvt.reference = s.cvt.reference ∧
    (settleBoard board d unverified s).cvt.target = s.cvt.target ∧
    (settleBoard board d unverified s).cvt.stall = s.cvt.stall ∧
    (settleBoard board d unverified s).cvt.entryTracked = s.cvt.entryTracked ∧
    (settleBoard board d unverified s).cvt.exitEdge = s.cvt.exitEdge ∧
    (settleBoard board d unverified s).cvt.downstream = s.cvt.downstream ∧
    SameAmc s (settleBoard board d unverified s) ∧ (settleBoard board d unverified s).tlk = s.tlk ∧
    (settleBoard board d unverified s).flk = s.flk ∧ SameFluxInputs s (settleBoard board d unverified s) ∧
    (settleBoard board d unverified s).phc = s.phc ∧ (settleBoard board d unverified s).ptc = s.ptc ∧
    (settleBoard board d unverified s).exm = s.exm ∧ (settleBoard board d unverified s).free = s.free ∧
    (settleBoard board d unverified s).pending = s.pending := by
  unfold settleBoard; (try dsimp only) <;> (repeat' split) <;> simp

@[simp] theorem refuseInSearch_keeps (d : DocketNo) (a : Nat) (s : State) :
    SameHpxButParity s (refuseInSearch d a s) ∧ (refuseInSearch d a s).dkc.unannounced = s.dkc.unannounced ∧
    (refuseInSearch d a s).dkc.window = s.dkc.window ∧ (refuseInSearch d a s).dkc.buffer = s.dkc.buffer ∧
    (refuseInSearch d a s).dkc.bad = s.dkc.bad ∧ (refuseInSearch d a s).dkc.rxHeld = s.dkc.rxHeld ∧
    (refuseInSearch d a s).dkc.rxPast = s.dkc.rxPast ∧
    (refuseInSearch d a s).cvt = s.cvt ∧ SameAmc s (refuseInSearch d a s) ∧ (refuseInSearch d a s).cta = s.cta ∧
    (refuseInSearch d a s).tlk = s.tlk ∧ (refuseInSearch d a s).flk = s.flk ∧ (refuseInSearch d a s).fxc = s.fxc ∧
    (refuseInSearch d a s).phc = s.phc ∧ (refuseInSearch d a s).ptc = s.ptc ∧ (refuseInSearch d a s).exm = s.exm ∧
    (refuseInSearch d a s).free = s.free ∧ (refuseInSearch d a s).pending = s.pending := by
  unfold refuseInSearch; (try dsimp only) <;> (repeat' split) <;> simp

@[simp] theorem closeNoRead_keeps (w : ReadWindow) (s : State) :
    SameHpxButParity s (closeNoRead w s) ∧ (closeNoRead w s).dkc.buffer = s.dkc.buffer ∧
    (closeNoRead w s).dkc.bad = s.dkc.bad ∧ (closeNoRead w s).dkc.rxHeld = s.dkc.rxHeld ∧
    (closeNoRead w s).dkc.rxPast = s.dkc.rxPast ∧
    SameBelt s (closeNoRead w s) ∧ (closeNoRead w s).cvt.drive = s.cvt.drive ∧
    (closeNoRead w s).cvt.reference = s.cvt.reference ∧ (closeNoRead w s).cvt.target = s.cvt.target ∧
    (closeNoRead w s).cvt.stall = s.cvt.stall ∧ (closeNoRead w s).cvt.entryTracked = s.cvt.entryTracked ∧
    (closeNoRead w s).cvt.exitEdge = s.cvt.exitEdge ∧ (closeNoRead w s).cvt.downstream = s.cvt.downstream ∧
    SameAmc s (closeNoRead w s) ∧ (closeNoRead w s).tlk = s.tlk ∧ (closeNoRead w s).flk = s.flk ∧
    SameFluxInputs s (closeNoRead w s) ∧ (closeNoRead w s).phc = s.phc ∧ (closeNoRead w s).ptc = s.ptc ∧
    (closeNoRead w s).exm = s.exm ∧ (closeNoRead w s).free = s.free ∧ (closeNoRead w s).pending = s.pending := by
  unfold closeNoRead; (try dsimp only) <;> (repeat' split) <;> simp

@[simp] theorem searchId_keeps (id : List Byte) (l : List DocketNo) (w : Option DocketNo) (s : State) :
    SameHpxButParity s (searchId id l w s).2 ∧ (searchId id l w s).2.dkc.unannounced = s.dkc.unannounced ∧
      (searchId id l w s).2.dkc.window = s.dkc.window ∧ (searchId id l w s).2.dkc.buffer = s.dkc.buffer ∧
      (searchId id l w s).2.dkc.bad = s.dkc.bad ∧ (searchId id l w s).2.dkc.rxHeld = s.dkc.rxHeld ∧
    (searchId id l w s).2.dkc.rxPast = s.dkc.rxPast ∧
      (searchId id l w s).2.cvt = s.cvt ∧ SameAmc s (searchId id l w s).2 ∧ (searchId id l w s).2.cta = s.cta ∧
      (searchId id l w s).2.tlk = s.tlk ∧ (searchId id l w s).2.flk = s.flk ∧ (searchId id l w s).2.fxc = s.fxc ∧
      (searchId id l w s).2.phc = s.phc ∧ (searchId id l w s).2.ptc = s.ptc ∧ (searchId id l w s).2.exm = s.exm ∧
      (searchId id l w s).2.free = s.free ∧ (searchId id l w s).2.pending = s.pending := by
  induction l generalizing w s with
  | nil => simp [searchId]
  | cons d l ih => unfold searchId; (repeat' split) <;> simp [ih]

@[simp] theorem validateRecipe_keeps (r : RecipeNo) (s : State) : OnlyHpx s (validateRecipe r s).2 ∧
    SameHpxButParity s (validateRecipe r s).2 := by
  unfold validateRecipe; (try dsimp only) <;> (repeat' split) <;> simp

@[simp] theorem closeRead_keeps (w : ReadWindow) (id : List Byte) (s : State) :
    SameHpxButParity s (closeRead w id s) ∧ (closeRead w id s).dkc.buffer = s.dkc.buffer ∧
    (closeRead w id s).dkc.bad = s.dkc.bad ∧ (closeRead w id s).dkc.rxHeld = s.dkc.rxHeld ∧
    (closeRead w id s).dkc.rxPast = s.dkc.rxPast ∧
    SameBelt s (closeRead w id s) ∧ (closeRead w id s).cvt.drive = s.cvt.drive ∧
    (closeRead w id s).cvt.reference = s.cvt.reference ∧ (closeRead w id s).cvt.target = s.cvt.target ∧
    (closeRead w id s).cvt.stall = s.cvt.stall ∧ (closeRead w id s).cvt.entryTracked = s.cvt.entryTracked ∧
    (closeRead w id s).cvt.exitEdge = s.cvt.exitEdge ∧ (closeRead w id s).cvt.downstream = s.cvt.downstream ∧
    SameAmc s (closeRead w id s) ∧ (closeRead w id s).tlk = s.tlk ∧ (closeRead w id s).flk = s.flk ∧
    SameFluxInputs s (closeRead w id s) ∧ (closeRead w id s).phc = s.phc ∧ (closeRead w id s).ptc = s.ptc ∧
    (closeRead w id s).exm = s.exm ∧ (closeRead w id s).free = s.free ∧ (closeRead w id s).pending = s.pending := by
  unfold closeRead; (try dsimp only) <;> (repeat' split) <;> simp

@[simp] theorem scanStart_keeps (board : Word) (s : State) :
    SameHpxButParity s (scanStart board s) ∧ (scanStart board s).dkc.rxHeld = s.dkc.rxHeld ∧
    (scanStart board s).dkc.rxPast = s.dkc.rxPast ∧
    SameBelt s (scanStart board s) ∧ (scanStart board s).cvt.drive = s.cvt.drive ∧
    (scanStart board s).cvt.reference = s.cvt.reference ∧ (scanStart board s).cvt.target = s.cvt.target ∧
    (scanStart board s).cvt.stall = s.cvt.stall ∧ (scanStart board s).cvt.entryTracked = s.cvt.entryTracked ∧
    (scanStart board s).cvt.exitEdge = s.cvt.exitEdge ∧ (scanStart board s).cvt.downstream = s.cvt.downstream ∧
    SameAmc s (scanStart board s) ∧ (scanStart board s).tlk = s.tlk ∧ (scanStart board s).flk = s.flk ∧
    SameFluxInputs s (scanStart board s) ∧ (scanStart board s).phc = s.phc ∧ (scanStart board s).ptc = s.ptc ∧
    (scanStart board s).exm = s.exm ∧ (scanStart board s).free = s.free ∧ (scanStart board s).pending = s.pending := by
  unfold scanStart; (try dsimp only) <;> (repeat' split) <;> simp

@[simp] theorem scanEnd_keeps (board : Word) (s : State) :
    SameHpxButParity s (scanEnd board s) ∧ (scanEnd board s).dkc.buffer = s.dkc.buffer ∧
    (scanEnd board s).dkc.bad = s.dkc.bad ∧ (scanEnd board s).dkc.rxHeld = s.dkc.rxHeld ∧
    (scanEnd board s).dkc.rxPast = s.dkc.rxPast ∧
    SameBelt s (scanEnd board s) ∧ (scanEnd board s).cvt.drive = s.cvt.drive ∧
    (scanEnd board s).cvt.reference = s.cvt.reference ∧ (scanEnd board s).cvt.target = s.cvt.target ∧
    (scanEnd board s).cvt.stall = s.cvt.stall ∧ (scanEnd board s).cvt.entryTracked = s.cvt.entryTracked ∧
    (scanEnd board s).cvt.exitEdge = s.cvt.exitEdge ∧ (scanEnd board s).cvt.downstream = s.cvt.downstream ∧
    SameAmc s (scanEnd board s) ∧ (scanEnd board s).tlk = s.tlk ∧ (scanEnd board s).flk = s.flk ∧
    SameFluxInputs s (scanEnd board s) ∧ (scanEnd board s).phc = s.phc ∧ (scanEnd board s).ptc = s.ptc ∧
    (scanEnd board s).exm = s.exm ∧ (scanEnd board s).free = s.free ∧ (scanEnd board s).pending = s.pending := by
  unfold scanEnd; (try dsimp only) <;> (repeat' split) <;> simp

@[simp] theorem messageEnd_keeps (w : ReadWindow) (s : State) :
    SameHpxButParity s (messageEnd w s) ∧ (messageEnd w s).dkc.rxHeld = s.dkc.rxHeld ∧
    (messageEnd w s).dkc.rxPast = s.dkc.rxPast ∧ SameBelt s (messageEnd w s) ∧
    (messageEnd w s).cvt.drive = s.cvt.drive ∧ (messageEnd w s).cvt.reference = s.cvt.reference ∧
    (messageEnd w s).cvt.target = s.cvt.target ∧ (messageEnd w s).cvt.stall = s.cvt.stall ∧
    (messageEnd w s).cvt.entryTracked = s.cvt.entryTracked ∧ (messageEnd w s).cvt.exitEdge = s.cvt.exitEdge ∧
    (messageEnd w s).cvt.downstream = s.cvt.downstream ∧ SameAmc s (messageEnd w s) ∧ (messageEnd w s).tlk = s.tlk ∧
    (messageEnd w s).flk = s.flk ∧ SameFluxInputs s (messageEnd w s) ∧ (messageEnd w s).phc = s.phc ∧
    (messageEnd w s).ptc = s.ptc ∧ (messageEnd w s).exm = s.exm ∧ (messageEnd w s).free = s.free ∧
    (messageEnd w s).pending = s.pending := by
  unfold messageEnd; (try dsimp only) <;> (repeat' split) <;> simp

@[simp] theorem takeCharacter_keeps (c : RxChar) (s : State) :
    SameHpxButParity s (takeCharacter c s) ∧ (takeCharacter c s).dkc.rxHeld = s.dkc.rxHeld ∧
    (takeCharacter c s).dkc.rxPast = s.dkc.rxPast ∧
    SameBelt s (takeCharacter c s) ∧ (takeCharacter c s).cvt.drive = s.cvt.drive ∧
    (takeCharacter c s).cvt.reference = s.cvt.reference ∧ (takeCharacter c s).cvt.target = s.cvt.target ∧
    (takeCharacter c s).cvt.stall = s.cvt.stall ∧ (takeCharacter c s).cvt.entryTracked = s.cvt.entryTracked ∧
    (takeCharacter c s).cvt.exitEdge = s.cvt.exitEdge ∧ (takeCharacter c s).cvt.downstream = s.cvt.downstream ∧
    SameAmc s (takeCharacter c s) ∧ (takeCharacter c s).tlk = s.tlk ∧ (takeCharacter c s).flk = s.flk ∧
    SameFluxInputs s (takeCharacter c s) ∧ (takeCharacter c s).phc = s.phc ∧ (takeCharacter c s).ptc = s.ptc ∧
    (takeCharacter c s).exm = s.exm ∧ (takeCharacter c s).free = s.free ∧ (takeCharacter c s).pending = s.pending := by
  unfold takeCharacter; (try dsimp only) <;> (repeat' split) <;> simp

@[simp] theorem takeHeld_keeps (s : State) :
    SameHpxButParity s (takeHeld s) ∧ SameBelt s (takeHeld s) ∧ (takeHeld s).cvt.drive = s.cvt.drive ∧
    (takeHeld s).cvt.reference = s.cvt.reference ∧ (takeHeld s).cvt.target = s.cvt.target ∧
    (takeHeld s).cvt.stall = s.cvt.stall ∧ (takeHeld s).cvt.entryTracked = s.cvt.entryTracked ∧
    (takeHeld s).cvt.exitEdge = s.cvt.exitEdge ∧ (takeHeld s).cvt.downstream = s.cvt.downstream ∧
    SameAmc s (takeHeld s) ∧ (takeHeld s).tlk = s.tlk ∧ (takeHeld s).flk = s.flk ∧ SameFluxInputs s (takeHeld s) ∧
    (takeHeld s).phc = s.phc ∧ (takeHeld s).ptc = s.ptc ∧ (takeHeld s).exm = s.exm ∧ (takeHeld s).free = s.free ∧
    (takeHeld s).pending = s.pending := by
  unfold takeHeld; (try dsimp only) <;> (repeat' split) <;> simp

@[simp] theorem closeDocket_keeps (d : DocketNo) (outcome : Byte) (s : State) :
    OnlyCells s (closeDocket d outcome s) := by
  unfold closeDocket; (try dsimp only) <;> (repeat' split) <;> simp

@[simp] theorem finaliseDocket_keeps (d : DocketNo) (s : State) :
    OnlyCells s (finaliseDocket d s) := by
  unfold finaliseDocket; (try dsimp only) <;> (repeat' split) <;> simp

@[simp] theorem entryLeft_keeps (e : MapEntry) (s : State) :
    SameHpx s (entryLeft e s) ∧ (entryLeft e s).dkc.arrival = s.dkc.arrival ∧
    (entryLeft e s).dkc.window = s.dkc.window ∧ (entryLeft e s).dkc.buffer = s.dkc.buffer ∧
    (entryLeft e s).dkc.bad = s.dkc.bad ∧ (entryLeft e s).dkc.rxHeld = s.dkc.rxHeld ∧
    (entryLeft e s).dkc.rxPast = s.dkc.rxPast ∧ (entryLeft e s).cvt = s.cvt ∧
    SameAmc s (entryLeft e s) ∧ (entryLeft e s).tlk = s.tlk ∧ (entryLeft e s).flk = s.flk ∧
    SameFluxInputs s (entryLeft e s) ∧ (entryLeft e s).phc = s.phc ∧ (entryLeft e s).ptc = s.ptc ∧
    (entryLeft e s).exm = s.exm ∧ (entryLeft e s).free = s.free ∧ (entryLeft e s).pending = s.pending := by
  unfold entryLeft; (try dsimp only) <;> (repeat' split) <;> simp

@[simp] theorem entryLost_keeps (e : MapEntry) (s : State) :
    OnlyCells s (entryLost e s) := by
  unfold entryLost; (try dsimp only) <;> (repeat' split) <;> simp

@[simp] theorem docketDiscard_keeps (entries : List MapEntry) (s : State) :
    SameHpx s (docketDiscard entries s) ∧ (docketDiscard entries s).dkc.arrival = s.dkc.arrival ∧
    (docketDiscard entries s).dkc.buffer = s.dkc.buffer ∧ (docketDiscard entries s).dkc.bad = s.dkc.bad ∧
    (docketDiscard entries s).dkc.rxHeld = s.dkc.rxHeld ∧
    (docketDiscard entries s).dkc.rxPast = s.dkc.rxPast ∧ (docketDiscard entries s).cvt = s.cvt ∧
    SameAmc s (docketDiscard entries s) ∧ (docketDiscard entries s).tlk = s.tlk ∧
    (docketDiscard entries s).flk = s.flk ∧ SameFluxInputs s (docketDiscard entries s) ∧
    (docketDiscard entries s).phc = s.phc ∧ (docketDiscard entries s).ptc = s.ptc ∧
    (docketDiscard entries s).exm = s.exm ∧ (docketDiscard entries s).free = s.free ∧
    (docketDiscard entries s).pending = s.pending := by
  unfold docketDiscard; (try dsimp only) <;> (repeat' split) <;> simp

@[simp] theorem discardMap_keeps (s : State) :
    OnlyJamActs s (discardMap s) ∧ (discardMap s).cvt.reference = s.cvt.reference ∧
    (discardMap s).cvt.stall = s.cvt.stall := by
  unfold discardMap; (try dsimp only) <;> (repeat' split) <;> simp

@[simp] theorem boardJam_keeps (cause : JamCause) (docket : Option DocketNo) (jam : JamOrder) (s : State) :
    OnlyJamActs s (boardJam cause docket jam s) := by
  unfold boardJam; (try dsimp only) <;> (repeat' split) <;> simp

@[simp] theorem writeStage_keeps (docket : Option DocketNo) (stage : Option Byte) (s : State) :
    OnlyRecords s (writeStage docket stage s) := by
  unfold writeStage; (try dsimp only) <;> (repeat' split) <;> simp

@[simp] theorem takeStage_keeps (board : Word) (docket : Option DocketNo) (e : Stage) (s : State) :
    SameHpxButParity s (takeStage board docket e s) ∧ (takeStage board docket e s).dkc.rxHeld = s.dkc.rxHeld ∧
    (takeStage board docket e s).dkc.rxPast = s.dkc.rxPast ∧
    SameBelt s (takeStage board docket e s) ∧ (takeStage board docket e s).cvt.drive = s.cvt.drive ∧
    (takeStage board docket e s).cvt.reference = s.cvt.reference ∧
    (takeStage board docket e s).cvt.target = s.cvt.target ∧ (takeStage board docket e s).cvt.stall = s.cvt.stall ∧
    (takeStage board docket e s).cvt.entryTracked = s.cvt.entryTracked ∧
    (takeStage board docket e s).cvt.exitEdge = s.cvt.exitEdge ∧
    (takeStage board docket e s).cvt.downstream = s.cvt.downstream ∧ SameAmc s (takeStage board docket e s) ∧
    (takeStage board docket e s).tlk = s.tlk ∧ (takeStage board docket e s).flk = s.flk ∧
    SameFluxInputs s (takeStage board docket e s) ∧ (takeStage board docket e s).phc.periodStart = s.phc.periodStart
    ∧ (takeStage board docket e s).phc.nextPeriod = s.phc.nextPeriod ∧ SameLevel s (takeStage board docket e s) ∧
    (takeStage board docket e s).ptc.pot = s.ptc.pot ∧ (takeStage board docket e s).ptc.chip = s.ptc.chip ∧
    (takeStage board docket e s).ptc.main = s.ptc.main ∧
    (takeStage board docket e s).ptc.mainLeftRamping = s.ptc.mainLeftRamping ∧
    (takeStage board docket e s).ptc.feeder = s.ptc.feeder ∧
    (takeStage board docket e s).ptc.feedTimer = s.ptc.feedTimer ∧
    (takeStage board docket e s).ptc.calibrate = s.ptc.calibrate ∧
    (takeStage board docket e s).ptc.feed = s.ptc.feed ∧ (takeStage board docket e s).exm = s.exm ∧
    (takeStage board docket e s).free = s.free ∧ (takeStage board docket e s).pending = s.pending := by
  unfold takeStage; (try dsimp only) <;> (repeat' split) <;> simp

@[simp] theorem issueStage_keeps (board : Word) (e : Stage) (s : State) :
    SameHpxButParity s (issueStage board e s) ∧ (issueStage board e s).dkc.rxHeld = s.dkc.rxHeld ∧
    (issueStage board e s).dkc.rxPast = s.dkc.rxPast ∧
    SameBelt s (issueStage board e s) ∧ (issueStage board e s).cvt.drive = s.cvt.drive ∧
    (issueStage board e s).cvt.reference = s.cvt.reference ∧ (issueStage board e s).cvt.target = s.cvt.target ∧
    (issueStage board e s).cvt.stall = s.cvt.stall ∧ (issueStage board e s).cvt.entryTracked = s.cvt.entryTracked ∧
    (issueStage board e s).cvt.exitEdge = s.cvt.exitEdge ∧ (issueStage board e s).cvt.downstream = s.cvt.downstream
    ∧ SameAmc s (issueStage board e s) ∧ (issueStage board e s).tlk = s.tlk ∧ (issueStage board e s).flk = s.flk ∧
    SameFluxInputs s (issueStage board e s) ∧ (issueStage board e s).phc.periodStart = s.phc.periodStart ∧
    (issueStage board e s).phc.nextPeriod = s.phc.nextPeriod ∧ SameLevel s (issueStage board e s) ∧
    (issueStage board e s).ptc.pot = s.ptc.pot ∧ (issueStage board e s).ptc.chip = s.ptc.chip ∧
    (issueStage board e s).ptc.main = s.ptc.main ∧
    (issueStage board e s).ptc.mainLeftRamping = s.ptc.mainLeftRamping ∧
    (issueStage board e s).ptc.feeder = s.ptc.feeder ∧ (issueStage board e s).ptc.feedTimer = s.ptc.feedTimer ∧
    (issueStage board e s).ptc.calibrate = s.ptc.calibrate ∧ (issueStage board e s).ptc.feed = s.ptc.feed ∧
    (issueStage board e s).exm = s.exm ∧ (issueStage board e s).free = s.free ∧
    (issueStage board e s).pending = s.pending := by
  unfold issueStage; (try dsimp only) <;> (repeat' split) <;> simp

@[simp] theorem issueStages_keeps (d : Description) (board : Word) (s : State) :
    SameHpxButParity s (issueStages d board s) ∧ (issueStages d board s).dkc.rxHeld = s.dkc.rxHeld ∧
    (issueStages d board s).dkc.rxPast = s.dkc.rxPast ∧
    SameBelt s (issueStages d board s) ∧ (issueStages d board s).cvt.drive = s.cvt.drive ∧
    (issueStages d board s).cvt.reference = s.cvt.reference ∧ (issueStages d board s).cvt.target = s.cvt.target ∧
    (issueStages d board s).cvt.stall = s.cvt.stall ∧ (issueStages d board s).cvt.entryTracked = s.cvt.entryTracked
    ∧ (issueStages d board s).cvt.exitEdge = s.cvt.exitEdge ∧
    (issueStages d board s).cvt.downstream = s.cvt.downstream ∧ SameAmc s (issueStages d board s) ∧
    (issueStages d board s).tlk = s.tlk ∧ (issueStages d board s).flk = s.flk ∧
    SameFluxInputs s (issueStages d board s) ∧ (issueStages d board s).phc.periodStart = s.phc.periodStart ∧
    (issueStages d board s).phc.nextPeriod = s.phc.nextPeriod ∧ SameLevel s (issueStages d board s) ∧
    (issueStages d board s).ptc.pot = s.ptc.pot ∧ (issueStages d board s).ptc.chip = s.ptc.chip ∧
    (issueStages d board s).ptc.main = s.ptc.main ∧
    (issueStages d board s).ptc.mainLeftRamping = s.ptc.mainLeftRamping ∧
    (issueStages d board s).ptc.feeder = s.ptc.feeder ∧ (issueStages d board s).ptc.feedTimer = s.ptc.feedTimer ∧
    (issueStages d board s).ptc.calibrate = s.ptc.calibrate ∧ (issueStages d board s).ptc.feed = s.ptc.feed ∧
    (issueStages d board s).exm = s.exm ∧ (issueStages d board s).free = s.free ∧
    (issueStages d board s).pending = s.pending := by
  unfold issueStages; (try dsimp only) <;> (repeat' split) <;> simp

@[simp] theorem stagePhase_keeps (s : State) :
    SameHpxButParity s (stagePhase s) ∧ (stagePhase s).dkc.rxHeld = s.dkc.rxHeld ∧
    (stagePhase s).dkc.rxPast = s.dkc.rxPast ∧ SameBelt s (stagePhase s) ∧
    (stagePhase s).cvt.drive = s.cvt.drive ∧ (stagePhase s).cvt.reference = s.cvt.reference ∧
    (stagePhase s).cvt.target = s.cvt.target ∧ (stagePhase s).cvt.stall = s.cvt.stall ∧
    (stagePhase s).cvt.entryTracked = s.cvt.entryTracked ∧ (stagePhase s).cvt.exitEdge = s.cvt.exitEdge ∧
    (stagePhase s).cvt.downstream = s.cvt.downstream ∧ SameAmc s (stagePhase s) ∧ (stagePhase s).tlk = s.tlk ∧
    (stagePhase s).flk = s.flk ∧ SameFluxInputs s (stagePhase s) ∧
    (stagePhase s).phc.periodStart = s.phc.periodStart ∧ (stagePhase s).phc.nextPeriod = s.phc.nextPeriod ∧
    SameLevel s (stagePhase s) ∧ (stagePhase s).ptc.pot = s.ptc.pot ∧ (stagePhase s).ptc.chip = s.ptc.chip ∧
    (stagePhase s).ptc.main = s.ptc.main ∧ (stagePhase s).ptc.mainLeftRamping = s.ptc.mainLeftRamping ∧
    (stagePhase s).ptc.feeder = s.ptc.feeder ∧ (stagePhase s).ptc.feedTimer = s.ptc.feedTimer ∧
    (stagePhase s).ptc.calibrate = s.ptc.calibrate ∧ (stagePhase s).ptc.feed = s.ptc.feed ∧
    (stagePhase s).exm = s.exm ∧ (stagePhase s).free = s.free ∧ (stagePhase s).pending = s.pending := by
  unfold stagePhase; (try dsimp only) <;> (repeat' split) <;> simp

@[simp] theorem exitOpen_keeps (board : Word) (s : State) :
    (exitOpen board s).hpx = s.hpx ∧ (exitOpen board s).dkc = s.dkc ∧ SameBelt s (exitOpen board s) ∧
    (exitOpen board s).cvt.drive = s.cvt.drive ∧ (exitOpen board s).cvt.reference = s.cvt.reference ∧
    (exitOpen board s).cvt.target = s.cvt.target ∧ (exitOpen board s).cvt.stall = s.cvt.stall ∧
    (exitOpen board s).cvt.entryTracked = s.cvt.entryTracked ∧ (exitOpen board s).cvt.exitEdge = s.cvt.exitEdge ∧
    (exitOpen board s).cvt.downstream = s.cvt.downstream ∧ (exitOpen board s).amc = s.amc ∧
    (exitOpen board s).cta = s.cta ∧ (exitOpen board s).tlk = s.tlk ∧ (exitOpen board s).flk = s.flk ∧
    (exitOpen board s).fxc = s.fxc ∧ (exitOpen board s).phc = s.phc ∧ (exitOpen board s).ptc = s.ptc ∧
    (exitOpen board s).exm = s.exm ∧ (exitOpen board s).free = s.free ∧ (exitOpen board s).pending = s.pending := by
  unfold exitOpen; (try dsimp only) <;> (repeat' split) <;> simp

@[simp] theorem exitLate_keeps (board : Word) (jam : JamOrder) (s : State) :
    OnlyJamActs s (exitLate board jam s) := by
  unfold exitLate; (try dsimp only) <;> (repeat' split) <;> simp

@[simp] theorem exitStagesOf_keeps (d : Description) (jam : JamOrder) (board : Word) (s : State) :
    OnlyJamActs s (exitStagesOf d jam board s) := by
  unfold exitStagesOf; (try dsimp only) <;> (repeat' split) <;> simp

@[simp] theorem exitPhase_keeps (jam : JamOrder) (s : State) :
    OnlyJamActs s (exitPhase jam s) := by
  unfold exitPhase; (try dsimp only) <;> (repeat' split) <;> simp

@[simp] theorem createEntry_keeps (held : Bool) (s : State) :
    SameHpxButParity s (createEntry held s) ∧ (createEntry held s).dkc.rxHeld = s.dkc.rxHeld ∧
    (createEntry held s).dkc.rxPast = s.dkc.rxPast ∧
    SameBelt s (createEntry held s) ∧ (createEntry held s).cvt.reference = s.cvt.reference ∧
    (createEntry held s).cvt.stall = s.cvt.stall ∧ (createEntry held s).cvt.exitEdge = s.cvt.exitEdge ∧
    (createEntry held s).cvt.downstream = s.cvt.downstream ∧ SameAmc s (createEntry held s) ∧
    (createEntry held s).tlk = s.tlk ∧ (createEntry held s).flk = s.flk ∧ SameFluxInputs s (createEntry held s) ∧
    (createEntry held s).phc.periodStart = s.phc.periodStart ∧
    (createEntry held s).phc.nextPeriod = s.phc.nextPeriod ∧ SameLevel s (createEntry held s) ∧
    (createEntry held s).ptc.pot = s.ptc.pot ∧ (createEntry held s).ptc.chip = s.ptc.chip ∧
    (createEntry held s).ptc.main = s.ptc.main ∧ (createEntry held s).ptc.mainLeftRamping = s.ptc.mainLeftRamping ∧
    (createEntry held s).ptc.feeder = s.ptc.feeder ∧ (createEntry held s).ptc.feedTimer = s.ptc.feedTimer ∧
    (createEntry held s).ptc.calibrate = s.ptc.calibrate ∧ (createEntry held s).ptc.feed = s.ptc.feed ∧
    (createEntry held s).exm = s.exm ∧ (createEntry held s).free = s.free ∧ (createEntry held s).pending = s.pending := by
  unfold createEntry; (try dsimp only) <;> (repeat' split) <;> simp

@[simp] theorem entryLeading_keeps (grant : Bool) (jam : JamOrder) (s : State) :
    SameHpxButParity s (entryLeading grant jam s) ∧ (entryLeading grant jam s).dkc.rxHeld = s.dkc.rxHeld ∧
    (entryLeading grant jam s).dkc.rxPast = s.dkc.rxPast ∧
    (entryLeading grant jam s).cvt.travel = s.cvt.travel ∧ (entryLeading grant jam s).cvt.residue = s.cvt.residue ∧
    (entryLeading grant jam s).cvt.mmTicksDue = s.cvt.mmTicksDue ∧
    (entryLeading grant jam s).cvt.thisInterval = s.cvt.thisInterval ∧
    (entryLeading grant jam s).cvt.prevInterval = s.cvt.prevInterval ∧
    (entryLeading grant jam s).cvt.measuredSpeed = s.cvt.measuredSpeed ∧
    (entryLeading grant jam s).cvt.exitEye = s.cvt.exitEye ∧ (entryLeading grant jam s).cvt.upOffer = s.cvt.upOffer
    ∧ (entryLeading grant jam s).cvt.dnAccept = s.cvt.dnAccept ∧
    (entryLeading grant jam s).cvt.nextSpeed = s.cvt.nextSpeed ∧
    (entryLeading grant jam s).cvt.nextRamp = s.cvt.nextRamp ∧ SameAmcButProfile s (entryLeading grant jam s) ∧
    (entryLeading grant jam s).tlk = s.tlk ∧ (entryLeading grant jam s).flk = s.flk ∧
    SameFluxInputs s (entryLeading grant jam s) ∧ (entryLeading grant jam s).phc.periodStart = s.phc.periodStart ∧
    (entryLeading grant jam s).phc.nextPeriod = s.phc.nextPeriod ∧ SameLevel s (entryLeading grant jam s) ∧
    (entryLeading grant jam s).exm = s.exm ∧ (entryLeading grant jam s).pending = s.pending := by
  unfold entryLeading; (try dsimp only) <;> (repeat' split) <;> simp

@[simp] theorem lengthKnown_keeps (e : MapEntry) (s : State) :
    SameHpxButParity s (lengthKnown e s) ∧ (lengthKnown e s).dkc = s.dkc ∧ (lengthKnown e s).cvt = s.cvt ∧
    SameAmc s (lengthKnown e s) ∧ (lengthKnown e s).cta = s.cta ∧ (lengthKnown e s).tlk = s.tlk ∧
    (lengthKnown e s).flk = s.flk ∧ (lengthKnown e s).fxc = s.fxc ∧ (lengthKnown e s).phc = s.phc ∧
    (lengthKnown e s).ptc = s.ptc ∧ (lengthKnown e s).exm = s.exm ∧ (lengthKnown e s).free = s.free ∧
    (lengthKnown e s).pending = s.pending := by
  unfold lengthKnown; (try dsimp only) <;> (repeat' split) <;> simp

@[simp] theorem entryTrailing_keeps (s : State) :
    SameHpxButParity s (entryTrailing s) ∧ (entryTrailing s).dkc = s.dkc ∧
    (entryTrailing s).cvt.travel = s.cvt.travel ∧ (entryTrailing s).cvt.residue = s.cvt.residue ∧
    (entryTrailing s).cvt.mmTicksDue = s.cvt.mmTicksDue ∧ (entryTrailing s).cvt.thisInterval = s.cvt.thisInterval ∧
    (entryTrailing s).cvt.prevInterval = s.cvt.prevInterval ∧
    (entryTrailing s).cvt.measuredSpeed = s.cvt.measuredSpeed ∧ (entryTrailing s).cvt.drive = s.cvt.drive ∧
    (entryTrailing s).cvt.reference = s.cvt.reference ∧ (entryTrailing s).cvt.target = s.cvt.target ∧
    (entryTrailing s).cvt.stall = s.cvt.stall ∧ (entryTrailing s).cvt.exitEye = s.cvt.exitEye ∧
    (entryTrailing s).cvt.exitEdge = s.cvt.exitEdge ∧ (entryTrailing s).cvt.upOffer = s.cvt.upOffer ∧
    (entryTrailing s).cvt.dnAccept = s.cvt.dnAccept ∧ (entryTrailing s).cvt.downstream = s.cvt.downstream ∧
    (entryTrailing s).cvt.nextSpeed = s.cvt.nextSpeed ∧ (entryTrailing s).cvt.nextRamp = s.cvt.nextRamp ∧
    SameAmc s (entryTrailing s) ∧ (entryTrailing s).cta = s.cta ∧ (entryTrailing s).tlk = s.tlk ∧
    (entryTrailing s).flk = s.flk ∧ (entryTrailing s).fxc = s.fxc ∧ (entryTrailing s).phc = s.phc ∧
    (entryTrailing s).ptc = s.ptc ∧ (entryTrailing s).exm = s.exm ∧ (entryTrailing s).free = s.free ∧
    (entryTrailing s).pending = s.pending := by
  unfold entryTrailing; (try dsimp only) <;> (repeat' split) <;> simp

@[simp] theorem entryPhase_keeps (blocked grant : Bool) (jam : JamOrder) (s : State) :
    SameHpxButParity s (entryPhase blocked grant jam s) ∧ (entryPhase blocked grant jam s).dkc.rxHeld = s.dkc.rxHeld ∧
    (entryPhase blocked grant jam s).dkc.rxPast = s.dkc.rxPast
    ∧ (entryPhase blocked grant jam s).cvt.travel = s.cvt.travel ∧
    (entryPhase blocked grant jam s).cvt.residue = s.cvt.residue ∧
    (entryPhase blocked grant jam s).cvt.mmTicksDue = s.cvt.mmTicksDue ∧
    (entryPhase blocked grant jam s).cvt.thisInterval = s.cvt.thisInterval ∧
    (entryPhase blocked grant jam s).cvt.prevInterval = s.cvt.prevInterval ∧
    (entryPhase blocked grant jam s).cvt.measuredSpeed = s.cvt.measuredSpeed ∧
    (entryPhase blocked grant jam s).cvt.exitEye = s.cvt.exitEye ∧
    (entryPhase blocked grant jam s).cvt.upOffer = s.cvt.upOffer ∧
    (entryPhase blocked grant jam s).cvt.dnAccept = s.cvt.dnAccept ∧
    (entryPhase blocked grant jam s).cvt.nextSpeed = s.cvt.nextSpeed ∧
    (entryPhase blocked grant jam s).cvt.nextRamp = s.cvt.nextRamp ∧
    SameAmcButProfile s (entryPhase blocked grant jam s) ∧ (entryPhase blocked grant jam s).tlk = s.tlk ∧
    (entryPhase blocked grant jam s).flk = s.flk ∧ SameFluxInputs s (entryPhase blocked grant jam s) ∧
    (entryPhase blocked grant jam s).phc.periodStart = s.phc.periodStart ∧
    (entryPhase blocked grant jam s).phc.nextPeriod = s.phc.nextPeriod ∧
    SameLevel s (entryPhase blocked grant jam s) ∧ (entryPhase blocked grant jam s).exm = s.exm ∧
    (entryPhase blocked grant jam s).pending = s.pending := by
  unfold entryPhase; (try dsimp only) <;> (repeat' split) <;> simp

@[simp] theorem exitLeading_keeps (jam : JamOrder) (s : State) :
    SameHpx s (exitLeading jam s) ∧ (exitLeading jam s).dkc.arrival = s.dkc.arrival ∧
    (exitLeading jam s).dkc.buffer = s.dkc.buffer ∧ (exitLeading jam s).dkc.bad = s.dkc.bad ∧
    (exitLeading jam s).dkc.rxHeld = s.dkc.rxHeld ∧
    (exitLeading jam s).dkc.rxPast = s.dkc.rxPast ∧ (exitLeading jam s).cvt.travel = s.cvt.travel ∧
    (exitLeading jam s).cvt.residue = s.cvt.residue ∧ (exitLeading jam s).cvt.mmTicksDue = s.cvt.mmTicksDue ∧
    (exitLeading jam s).cvt.thisInterval = s.cvt.thisInterval ∧
    (exitLeading jam s).cvt.prevInterval = s.cvt.prevInterval ∧
    (exitLeading jam s).cvt.measuredSpeed = s.cvt.measuredSpeed ∧ (exitLeading jam s).cvt.entryEye = s.cvt.entryEye
    ∧ (exitLeading jam s).cvt.upOffer = s.cvt.upOffer ∧ (exitLeading jam s).cvt.dnAccept = s.cvt.dnAccept ∧
    (exitLeading jam s).cvt.nextSpeed = s.cvt.nextSpeed ∧ (exitLeading jam s).cvt.nextRamp = s.cvt.nextRamp ∧
    SameAmcButProfile s (exitLeading jam s) ∧ (exitLeading jam s).tlk = s.tlk ∧ (exitLeading jam s).flk = s.flk ∧
    SameFluxInputs s (exitLeading jam s) ∧ (exitLeading jam s).phc.periodStart = s.phc.periodStart ∧
    (exitLeading jam s).phc.nextPeriod = s.phc.nextPeriod ∧ SameLevel s (exitLeading jam s) ∧
    (exitLeading jam s).exm = s.exm ∧ (exitLeading jam s).pending = s.pending := by
  unfold exitLeading; (try dsimp only) <;> (repeat' split) <;> simp

@[simp] theorem exitTrailing_keeps (s : State) :
    SameHpx s (exitTrailing s) ∧ (exitTrailing s).dkc.arrival = s.dkc.arrival ∧
    (exitTrailing s).dkc.window = s.dkc.window ∧ (exitTrailing s).dkc.buffer = s.dkc.buffer ∧
    (exitTrailing s).dkc.bad = s.dkc.bad ∧ (exitTrailing s).dkc.rxHeld = s.dkc.rxHeld ∧
    (exitTrailing s).dkc.rxPast = s.dkc.rxPast ∧
    (exitTrailing s).cvt.travel = s.cvt.travel ∧ (exitTrailing s).cvt.residue = s.cvt.residue ∧
    (exitTrailing s).cvt.mmTicksDue = s.cvt.mmTicksDue ∧ (exitTrailing s).cvt.thisInterval = s.cvt.thisInterval ∧
    (exitTrailing s).cvt.prevInterval = s.cvt.prevInterval ∧
    (exitTrailing s).cvt.measuredSpeed = s.cvt.measuredSpeed ∧ (exitTrailing s).cvt.reference = s.cvt.reference ∧
    (exitTrailing s).cvt.stall = s.cvt.stall ∧ (exitTrailing s).cvt.entryEye = s.cvt.entryEye ∧
    (exitTrailing s).cvt.entryTracked = s.cvt.entryTracked ∧ (exitTrailing s).cvt.upOffer = s.cvt.upOffer ∧
    (exitTrailing s).cvt.dnAccept = s.cvt.dnAccept ∧ (exitTrailing s).cvt.nextSpeed = s.cvt.nextSpeed ∧
    (exitTrailing s).cvt.nextRamp = s.cvt.nextRamp ∧ SameAmcButProfile s (exitTrailing s) ∧
    (exitTrailing s).tlk = s.tlk ∧ (exitTrailing s).flk = s.flk ∧ SameFluxInputs s (exitTrailing s) ∧
    (exitTrailing s).phc.periodStart = s.phc.periodStart ∧ (exitTrailing s).phc.nextPeriod = s.phc.nextPeriod ∧
    (exitTrailing s).phc.pyro = s.phc.pyro ∧ SamePtcButPumps s (exitTrailing s) ∧ (exitTrailing s).exm = s.exm ∧
    (exitTrailing s).pending = s.pending := by
  unfold exitTrailing; (try dsimp only) <;> (repeat' split) <;> simp

@[simp] theorem exitEyePhase_keeps (blocked : Bool) (jam : JamOrder) (s : State) :
    SameHpx s (exitEyePhase blocked jam s) ∧ (exitEyePhase blocked jam s).dkc.arrival = s.dkc.arrival ∧
    (exitEyePhase blocked jam s).dkc.buffer = s.dkc.buffer ∧ (exitEyePhase blocked jam s).dkc.bad = s.dkc.bad ∧
    (exitEyePhase blocked jam s).dkc.rxHeld = s.dkc.rxHeld ∧
    (exitEyePhase blocked jam s).dkc.rxPast = s.dkc.rxPast ∧ (exitEyePhase blocked jam s).cvt.travel = s.cvt.travel
    ∧ (exitEyePhase blocked jam s).cvt.residue = s.cvt.residue ∧
    (exitEyePhase blocked jam s).cvt.mmTicksDue = s.cvt.mmTicksDue ∧
    (exitEyePhase blocked jam s).cvt.thisInterval = s.cvt.thisInterval ∧
    (exitEyePhase blocked jam s).cvt.prevInterval = s.cvt.prevInterval ∧
    (exitEyePhase blocked jam s).cvt.measuredSpeed = s.cvt.measuredSpeed ∧
    (exitEyePhase blocked jam s).cvt.entryEye = s.cvt.entryEye ∧
    (exitEyePhase blocked jam s).cvt.upOffer = s.cvt.upOffer ∧
    (exitEyePhase blocked jam s).cvt.dnAccept = s.cvt.dnAccept ∧
    (exitEyePhase blocked jam s).cvt.nextSpeed = s.cvt.nextSpeed ∧
    (exitEyePhase blocked jam s).cvt.nextRamp = s.cvt.nextRamp ∧ SameAmcButProfile s (exitEyePhase blocked jam s) ∧
    (exitEyePhase blocked jam s).tlk = s.tlk ∧ (exitEyePhase blocked jam s).flk = s.flk ∧
    SameFluxInputs s (exitEyePhase blocked jam s) ∧ (exitEyePhase blocked jam s).phc.periodStart = s.phc.periodStart
    ∧ (exitEyePhase blocked jam s).phc.nextPeriod = s.phc.nextPeriod ∧ SameLevel s (exitEyePhase blocked jam s) ∧
    (exitEyePhase blocked jam s).exm = s.exm ∧ (exitEyePhase blocked jam s).pending = s.pending := by
  unfold exitEyePhase; (try dsimp only) <;> (repeat' split) <;> simp

@[simp] theorem entryBlocked_keeps (jam : JamOrder) (s : State) :
    OnlyJamActs s (entryBlocked jam s) := by
  unfold entryBlocked; (try dsimp only) <;> (repeat' split) <;> simp

@[simp] theorem exitBlocked_keeps (jam : JamOrder) (s : State) :
    OnlyJamActs s (exitBlocked jam s) := by
  unfold exitBlocked; (try dsimp only) <;> (repeat' split) <;> simp

@[simp] theorem takeBlocked_keeps (jam : JamOrder) (s : State) :
    OnlyJamActs s (takeBlocked jam s) := by
  unfold takeBlocked; (try dsimp only) <;> (repeat' split) <;> simp

@[simp] theorem advanceTravel_keeps (s : State) :
    OnlyCvt s (advanceTravel s) ∧ (advanceTravel s).cvt.residue = s.cvt.residue ∧
    (advanceTravel s).cvt.prevInterval = s.cvt.prevInterval ∧
    (advanceTravel s).cvt.measuredSpeed = s.cvt.measuredSpeed ∧ (advanceTravel s).cvt.drive = s.cvt.drive ∧
    (advanceTravel s).cvt.reference = s.cvt.reference ∧ (advanceTravel s).cvt.target = s.cvt.target ∧
    (advanceTravel s).cvt.map = s.cvt.map ∧ (advanceTravel s).cvt.entryEye = s.cvt.entryEye ∧
    (advanceTravel s).cvt.exitEye = s.cvt.exitEye ∧ (advanceTravel s).cvt.entryTracked = s.cvt.entryTracked ∧
    (advanceTravel s).cvt.exitEdge = s.cvt.exitEdge ∧ (advanceTravel s).cvt.upOffer = s.cvt.upOffer ∧
    (advanceTravel s).cvt.dnAccept = s.cvt.dnAccept ∧ (advanceTravel s).cvt.downstream = s.cvt.downstream ∧
    (advanceTravel s).cvt.nextSpeed = s.cvt.nextSpeed ∧ (advanceTravel s).cvt.nextRamp = s.cvt.nextRamp := by
  unfold advanceTravel; (try dsimp only) <;> (repeat' split) <;> simp

@[simp] theorem takeSettled_keeps (s : State) :
    SameHpx s (takeSettled s) ∧ (takeSettled s).dkc = s.dkc ∧ (takeSettled s).cvt = s.cvt ∧
    SameAmcButMode s (takeSettled s) ∧ (takeSettled s).amc.mode = s.amc.mode ∧
    (takeSettled s).amc.finish = s.amc.finish ∧ (takeSettled s).tlk = s.tlk ∧ (takeSettled s).flk = s.flk ∧
    SameFluxInputs s (takeSettled s) ∧ (takeSettled s).phc = s.phc ∧ (takeSettled s).ptc = s.ptc ∧
    (takeSettled s).exm = s.exm ∧ (takeSettled s).pending = s.pending := by
  unfold takeSettled; (try dsimp only) <;> (repeat' split) <;> simp

@[simp] theorem sweepHpx_keeps (s : State) :
    OnlyHpx s (sweepHpx s) ∧ (sweepHpx s).hpx.phase = s.hpx.phase ∧ (sweepHpx s).hpx.answer = s.hpx.answer ∧
    (sweepHpx s).hpx.attn = s.hpx.attn ∧ (sweepHpx s).hpx.attnMask = s.hpx.attnMask := by
  unfold sweepHpx; (try dsimp only) <;> (repeat' split) <;> simp

@[simp] theorem sweepCell_keeps (c : CellNo) (s : State) :
    OnlyCells s (sweepCell c s) := by
  unfold sweepCell; (try dsimp only) <;> (repeat' split) <;> simp

@[simp] theorem sweepDocket_keeps (d : DocketNo) (s : State) :
    OnlyCells s (sweepDocket d s) := by
  unfold sweepDocket; (try dsimp only) <;> (repeat' split) <;> simp

@[simp] theorem sweepDkc_keeps (s : State) :
    SameHpx s (sweepDkc s) ∧ (sweepDkc s).cvt = s.cvt ∧ (sweepDkc s).amc = s.amc ∧ (sweepDkc s).cta = s.cta ∧
    (sweepDkc s).tlk = s.tlk ∧ (sweepDkc s).flk = s.flk ∧ (sweepDkc s).fxc = s.fxc ∧ (sweepDkc s).phc = s.phc ∧
    (sweepDkc s).ptc = s.ptc ∧ (sweepDkc s).exm = s.exm ∧ (sweepDkc s).free = s.free ∧
    (sweepDkc s).pending = s.pending := by
  unfold sweepDkc; (try dsimp only) <;> (repeat' split) <;> simp

@[simp] theorem sweepAmc_keeps (s : State) :
    SameHpx s (sweepAmc s) ∧ (sweepAmc s).dkc = s.dkc ∧ (sweepAmc s).cvt = s.cvt ∧
    (sweepAmc s).amc.ticks = s.amc.ticks ∧ (sweepAmc s).amc.inForce = s.amc.inForce ∧
    (sweepAmc s).amc.profile = s.amc.profile ∧ (sweepAmc s).cta = s.cta ∧ (sweepAmc s).tlk = s.tlk ∧
    (sweepAmc s).flk = s.flk ∧ (sweepAmc s).fxc = s.fxc ∧ (sweepAmc s).phc = s.phc ∧ (sweepAmc s).ptc = s.ptc ∧
    (sweepAmc s).exm = s.exm ∧ (sweepAmc s).xm = s.xm ∧ (sweepAmc s).free = s.free ∧
    (sweepAmc s).pending = s.pending := by
  unfold sweepAmc; (try dsimp only) <;> (repeat' split) <;> simp

@[simp] theorem sweepCvt_keeps (s : State) :
    OnlyCvt s (sweepCvt s) ∧ SameBelt s (sweepCvt s) := by
  unfold sweepCvt; (try dsimp only) <;> (repeat' split) <;> simp

@[simp] theorem sweepCta_keeps (s : State) :
    OnlyCta s (sweepCta s) ∧ (sweepCta s).cta.results = s.cta.results ∧ (sweepCta s).cta.echoTrigs = s.cta.echoTrigs := by
  unfold sweepCta; (try dsimp only) <;> (repeat' split) <;> simp

@[simp] theorem sweepFxc_keeps (s : State) :
    OnlyFxc s (sweepFxc s) ∧ SameFluxInputs s (sweepFxc s) := by
  unfold sweepFxc; (try dsimp only) <;> (repeat' split) <;> simp

@[simp] theorem sweepPhc_keeps (s : State) :
    (sweepPhc s).hpx = s.hpx ∧ (sweepPhc s).dkc = s.dkc ∧ (sweepPhc s).cvt = s.cvt ∧ (sweepPhc s).amc = s.amc ∧
    (sweepPhc s).cta = s.cta ∧ (sweepPhc s).tlk = s.tlk ∧ (sweepPhc s).flk = s.flk ∧ (sweepPhc s).fxc = s.fxc ∧
    (sweepPhc s).phc.periodStart = s.phc.periodStart ∧ (sweepPhc s).phc.nextPeriod = s.phc.nextPeriod ∧
    (sweepPhc s).ptc = s.ptc ∧ (sweepPhc s).exm = s.exm ∧ (sweepPhc s).xm = s.xm ∧ (sweepPhc s).free = s.free ∧
    (sweepPhc s).pending = s.pending := by
  unfold sweepPhc; (try dsimp only) <;> (repeat' split) <;> simp

@[simp] theorem sweepPtc_keeps (s : State) :
    OnlyPtc s (sweepPtc s) ∧ SameLevel s (sweepPtc s) := by
  unfold sweepPtc; (try dsimp only) <;> (repeat' split) <;> simp

@[simp] theorem sweepExm_keeps (s : State) :
    OnlyExm s (sweepExm s) ∧ (sweepExm s).exm.fanOn = s.exm.fanOn ∧ (sweepExm s).exm.suppression = s.exm.suppression
    ∧ (sweepExm s).exm.ductDp = s.exm.ductDp ∧ (sweepExm s).exm.filterDp = s.exm.filterDp ∧
    (sweepExm s).exm.fanRpm = s.exm.fanRpm := by
  unfold sweepExm; (try dsimp only) <;> (repeat' split) <;> simp

@[simp] theorem sweepFlk_keeps (s : State) :
    (sweepFlk s).hpx = s.hpx ∧ (sweepFlk s).dkc = s.dkc ∧ (sweepFlk s).cvt = s.cvt ∧ (sweepFlk s).amc = s.amc ∧
    (sweepFlk s).cta = s.cta ∧ (sweepFlk s).tlk = s.tlk ∧ (sweepFlk s).flk.duct = s.flk.duct ∧
    (sweepFlk s).flk.filter = s.flk.filter ∧ (sweepFlk s).flk.nextPoll = s.flk.nextPoll ∧ (sweepFlk s).fxc = s.fxc ∧
    (sweepFlk s).phc = s.phc ∧ (sweepFlk s).ptc = s.ptc ∧ (sweepFlk s).exm = s.exm ∧ (sweepFlk s).xm = s.xm ∧
    (sweepFlk s).free = s.free ∧ (sweepFlk s).pending = s.pending := by
  unfold sweepFlk; (try dsimp only) <;> (repeat' split) <;> simp

@[simp] theorem noticeChannel_keeps (c : Fin 8) (s : State) :
    (noticeChannel c s).hpx = s.hpx ∧ (noticeChannel c s).dkc = s.dkc ∧ (noticeChannel c s).cvt = s.cvt ∧
    (noticeChannel c s).amc = s.amc ∧ (noticeChannel c s).cta = s.cta ∧ (noticeChannel c s).tlk = s.tlk ∧
    (noticeChannel c s).flk = s.flk ∧ (noticeChannel c s).fxc = s.fxc ∧
    (noticeChannel c s).phc.periodStart = s.phc.periodStart ∧ (noticeChannel c s).phc.nextPeriod = s.phc.nextPeriod
    ∧ (noticeChannel c s).phc.pyro = s.phc.pyro ∧ SamePtcButPumps s (noticeChannel c s) ∧
    (noticeChannel c s).ptc.chip = s.ptc.chip ∧ (noticeChannel c s).ptc.main = s.ptc.main ∧
    (noticeChannel c s).ptc.mainLeftRamping = s.ptc.mainLeftRamping ∧ (noticeChannel c s).ptc.feeder = s.ptc.feeder
    ∧ (noticeChannel c s).ptc.feedTimer = s.ptc.feedTimer ∧ (noticeChannel c s).ptc.calibrate = s.ptc.calibrate ∧
    (noticeChannel c s).ptc.feed = s.ptc.feed ∧ (noticeChannel c s).exm = s.exm ∧ (noticeChannel c s).free = s.free
    ∧ (noticeChannel c s).pending = s.pending := by
  unfold noticeChannel; (try dsimp only) <;> (repeat' split) <;> simp

@[simp] theorem sweepBlocks_keeps (s : State) :
    (sweepBlocks s).hpx.phase = s.hpx.phase ∧ (sweepBlocks s).hpx.answer = s.hpx.answer ∧
    (sweepBlocks s).hpx.attnMask = s.hpx.attnMask ∧ SameBelt s (sweepBlocks s) ∧
    (sweepBlocks s).amc.ticks = s.amc.ticks ∧ (sweepBlocks s).amc.inForce = s.amc.inForce ∧
    (sweepBlocks s).amc.profile = s.amc.profile ∧ (sweepBlocks s).cta.results = s.cta.results ∧
    (sweepBlocks s).cta.echoTrigs = s.cta.echoTrigs ∧ (sweepBlocks s).tlk = s.tlk ∧
    (sweepBlocks s).flk.duct = s.flk.duct ∧ (sweepBlocks s).flk.filter = s.flk.filter ∧
    (sweepBlocks s).flk.nextPoll = s.flk.nextPoll ∧ SameFluxInputs s (sweepBlocks s) ∧
    (sweepBlocks s).phc.periodStart = s.phc.periodStart ∧ (sweepBlocks s).phc.nextPeriod = s.phc.nextPeriod ∧
    SameLevel s (sweepBlocks s) ∧ (sweepBlocks s).exm.fanOn = s.exm.fanOn ∧
    (sweepBlocks s).exm.suppression = s.exm.suppression ∧ (sweepBlocks s).exm.ductDp = s.exm.ductDp ∧
    (sweepBlocks s).exm.filterDp = s.exm.filterDp ∧ (sweepBlocks s).exm.fanRpm = s.exm.fanRpm ∧
    (sweepBlocks s).free = s.free ∧ (sweepBlocks s).pending = s.pending := by
  unfold sweepBlocks; (try dsimp only) <;> (repeat' split) <;> simp

@[simp] theorem rejudgeZone_keeps (z : ZoneNo) (s : State) :
    OnlyZones s (rejudgeZone z s) ∧ (rejudgeZone z s).xm = s.xm := by
  unfold rejudgeZone; (try dsimp only) <;> (repeat' split) <;> simp

@[simp] theorem rejudgeOvertemp_keeps (s : State) :
    OnlyModeActs s (rejudgeOvertemp s) := by
  unfold rejudgeOvertemp; (try dsimp only) <;> (repeat' split) <;> simp

@[simp] theorem rejudgePot_keeps (s : State) :
    OnlyModeActs s (rejudgePot s) := by
  unfold rejudgePot; (try dsimp only) <;> (repeat' split) <;> simp

@[simp] theorem rejudgeExm_keeps (s : State) :
    SameHpx s (rejudgeExm s) ∧ (rejudgeExm s).dkc = s.dkc ∧ (rejudgeExm s).cvt = s.cvt ∧ SameAmc s (rejudgeExm s) ∧
    (rejudgeExm s).tlk = s.tlk ∧ (rejudgeExm s).flk = s.flk ∧ SameFluxInputs s (rejudgeExm s) ∧
    (rejudgeExm s).phc = s.phc ∧ (rejudgeExm s).ptc = s.ptc ∧ (rejudgeExm s).exm.fanOn = s.exm.fanOn ∧
    (rejudgeExm s).exm.runOn = s.exm.runOn ∧ (rejudgeExm s).exm.suppression = s.exm.suppression ∧
    (rejudgeExm s).exm.airflowLow = s.exm.airflowLow ∧ (rejudgeExm s).exm.airflowLost = s.exm.airflowLost ∧
    (rejudgeExm s).exm.filterLoaded = s.exm.filterLoaded ∧ (rejudgeExm s).exm.filterClogged = s.exm.filterClogged ∧
    (rejudgeExm s).exm.fanStall = s.exm.fanStall ∧ (rejudgeExm s).exm.stallTimer = s.exm.stallTimer ∧
    (rejudgeExm s).exm.clearTimer = s.exm.clearTimer ∧ (rejudgeExm s).exm.ductDp = s.exm.ductDp ∧
    (rejudgeExm s).exm.filterDp = s.exm.filterDp ∧ (rejudgeExm s).exm.fanRpm = s.exm.fanRpm ∧
    (rejudgeExm s).free = s.free ∧ (rejudgeExm s).pending = s.pending := by
  unfold rejudgeExm; (try dsimp only) <;> (repeat' split) <;> simp

@[simp] theorem sweepNotices_keeps (s : State) :
    SameHpx s (sweepNotices s) ∧ (sweepNotices s).dkc = s.dkc ∧ SameCvtButDrive s (sweepNotices s) ∧
    SameAmcButMode s (sweepNotices s) ∧ (sweepNotices s).tlk = s.tlk ∧ (sweepNotices s).flk = s.flk ∧
    SameFluxInputs s (sweepNotices s) ∧ (sweepNotices s).phc.periodStart = s.phc.periodStart ∧
    (sweepNotices s).phc.nextPeriod = s.phc.nextPeriod ∧ (sweepNotices s).phc.pyro = s.phc.pyro ∧
    SamePtcButPumps s (sweepNotices s) ∧ (sweepNotices s).exm.fanOn = s.exm.fanOn ∧
    (sweepNotices s).exm.runOn = s.exm.runOn ∧ (sweepNotices s).exm.suppression = s.exm.suppression ∧
    (sweepNotices s).exm.airflowLow = s.exm.airflowLow ∧ (sweepNotices s).exm.airflowLost = s.exm.airflowLost ∧
    (sweepNotices s).exm.filterLoaded = s.exm.filterLoaded ∧
    (sweepNotices s).exm.filterClogged = s.exm.filterClogged ∧ (sweepNotices s).exm.fanStall = s.exm.fanStall ∧
    (sweepNotices s).exm.stallTimer = s.exm.stallTimer ∧ (sweepNotices s).exm.clearTimer = s.exm.clearTimer ∧
    (sweepNotices s).exm.ductDp = s.exm.ductDp ∧ (sweepNotices s).exm.filterDp = s.exm.filterDp ∧
    (sweepNotices s).exm.fanRpm = s.exm.fanRpm ∧ (sweepNotices s).pending = s.pending := by
  unfold sweepNotices; (try dsimp only) <;> (repeat' split) <;> simp

@[simp] theorem hostReset_keeps (s : State) :
    (hostReset s).hpx.answer = s.hpx.answer ∧ (hostReset s).hpx.attnMask = s.hpx.attnMask ∧ SameBelt s (hostReset s)
    ∧ (hostReset s).amc.ticks = s.amc.ticks ∧ (hostReset s).amc.inForce = s.amc.inForce ∧
    (hostReset s).amc.profile = s.amc.profile ∧ (hostReset s).tlk = s.tlk ∧ (hostReset s).flk.duct = s.flk.duct ∧
    (hostReset s).flk.filter = s.flk.filter ∧ (hostReset s).flk.nextPoll = s.flk.nextPoll ∧
    SameFluxInputs s (hostReset s) ∧ (hostReset s).phc.periodStart = s.phc.periodStart ∧
    (hostReset s).phc.nextPeriod = s.phc.nextPeriod ∧ SameLevel s (hostReset s) ∧
    (hostReset s).exm.fanOn = s.exm.fanOn ∧ (hostReset s).exm.suppression = s.exm.suppression ∧
    (hostReset s).exm.ductDp = s.exm.ductDp ∧ (hostReset s).exm.filterDp = s.exm.filterDp ∧
    (hostReset s).exm.fanRpm = s.exm.fanRpm ∧ (hostReset s).pending = s.pending := by
  unfold hostReset; (try dsimp only) <;> (repeat' split) <;> simp

@[simp] theorem answer_keeps (t : Termination) (data : Option Half) (s : State) :
    OnlyHpx s (answer t data s) ∧ (answer t data s).hpx.phase = s.hpx.phase ∧
    (answer t data s).hpx.slot = s.hpx.slot ∧ (answer t data s).hpx.refusal = s.hpx.refusal ∧
    (answer t data s).hpx.parityAddr = s.hpx.parityAddr ∧ (answer t data s).hpx.parityInvert = s.hpx.parityInvert ∧
    (answer t data s).hpx.attn = s.hpx.attn ∧ (answer t data s).hpx.attnMask = s.hpx.attnMask ∧
    (answer t data s).hpx.handed = s.hpx.handed := by
  unfold answer; (try dsimp only) <;> (repeat' split) <;> simp

@[simp] theorem answerRetry_keeps (s : State) :
    OnlyHpx s (answerRetry s) ∧ (answerRetry s).hpx.phase = s.hpx.phase ∧ (answerRetry s).hpx.slot = s.hpx.slot ∧
    (answerRetry s).hpx.refusal = s.hpx.refusal ∧ (answerRetry s).hpx.parityAddr = s.hpx.parityAddr ∧
    (answerRetry s).hpx.parityInvert = s.hpx.parityInvert ∧ (answerRetry s).hpx.attn = s.hpx.attn ∧
    (answerRetry s).hpx.attnMask = s.hpx.attnMask ∧ (answerRetry s).hpx.handed = s.hpx.handed := by
  unfold answerRetry; (try dsimp only) <;> (repeat' split) <;> simp

@[simp] theorem writeControl_keeps (data : Half) (s : State) :
    (writeControl data s).hpx.answer = s.hpx.answer ∧ (writeControl data s).hpx.attnMask = s.hpx.attnMask ∧
    SameBelt s (writeControl data s) ∧ (writeControl data s).amc.ticks = s.amc.ticks ∧
    (writeControl data s).amc.inForce = s.amc.inForce ∧ (writeControl data s).amc.profile = s.amc.profile ∧
    (writeControl data s).tlk = s.tlk ∧ (writeControl data s).flk.duct = s.flk.duct ∧
    (writeControl data s).flk.filter = s.flk.filter ∧ (writeControl data s).flk.nextPoll = s.flk.nextPoll ∧
    SameFluxInputs s (writeControl data s) ∧ (writeControl data s).phc.periodStart = s.phc.periodStart ∧
    (writeControl data s).phc.nextPeriod = s.phc.nextPeriod ∧ SameLevel s (writeControl data s) ∧
    (writeControl data s).exm.fanOn = s.exm.fanOn ∧ (writeControl data s).exm.suppression = s.exm.suppression ∧
    (writeControl data s).exm.ductDp = s.exm.ductDp ∧ (writeControl data s).exm.filterDp = s.exm.filterDp ∧
    (writeControl data s).exm.fanRpm = s.exm.fanRpm ∧ (writeControl data s).pending = s.pending := by
  unfold writeControl; (try dsimp only) <;> (repeat' split) <;> simp

@[simp] theorem writeRegister_keeps (r : Register) (en : Enables) (data : Half) (s : State) :
    (writeRegister r en data s).hpx.answer = s.hpx.answer ∧ SameBelt s (writeRegister r en data s) ∧
    (writeRegister r en data s).amc.ticks = s.amc.ticks ∧ (writeRegister r en data s).amc.inForce = s.amc.inForce ∧
    (writeRegister r en data s).amc.profile = s.amc.profile ∧ (writeRegister r en data s).tlk = s.tlk ∧
    (writeRegister r en data s).flk.duct = s.flk.duct ∧ (writeRegister r en data s).flk.filter = s.flk.filter ∧
    (writeRegister r en data s).flk.nextPoll = s.flk.nextPoll ∧ SameFluxInputs s (writeRegister r en data s) ∧
    (writeRegister r en data s).phc.periodStart = s.phc.periodStart ∧
    (writeRegister r en data s).phc.nextPeriod = s.phc.nextPeriod ∧ SameLevel s (writeRegister r en data s) ∧
    (writeRegister r en data s).exm.fanOn = s.exm.fanOn ∧
    (writeRegister r en data s).exm.suppression = s.exm.suppression ∧
    (writeRegister r en data s).exm.ductDp = s.exm.ductDp ∧
    (writeRegister r en data s).exm.filterDp = s.exm.filterDp ∧
    (writeRegister r en data s).exm.fanRpm = s.exm.fanRpm ∧ (writeRegister r en data s).pending = s.pending := by
  unfold writeRegister; (try dsimp only) <;> (repeat' split) <;> simp

@[simp] theorem refuseWrite_keeps (a data : Half) (r : RefusalReason) (s : State) :
    OnlyHpx s (refuseWrite a data r s) ∧ (refuseWrite a data r s).hpx.phase = s.hpx.phase ∧
    (refuseWrite a data r s).hpx.slot = s.hpx.slot ∧ (refuseWrite a data r s).hpx.parityAddr = s.hpx.parityAddr ∧
    (refuseWrite a data r s).hpx.parityInvert = s.hpx.parityInvert ∧
    (refuseWrite a data r s).hpx.attnMask = s.hpx.attnMask ∧ (refuseWrite a data r s).hpx.handed = s.hpx.handed := by
  unfold refuseWrite; (try dsimp only) <;> (repeat' split) <;> simp

@[simp] theorem hostStoreByte_keeps (b : Nat) (v : Byte) (s : State) :
    (hostStoreByte b v s).hpx = s.hpx ∧ (hostStoreByte b v s).dkc = s.dkc ∧ (hostStoreByte b v s).cvt = s.cvt ∧
    SameAmcButProfile s (hostStoreByte b v s) ∧ (hostStoreByte b v s).amc.mode = s.amc.mode ∧
    (hostStoreByte b v s).amc.profile = s.amc.profile ∧ (hostStoreByte b v s).amc.alarms = s.amc.alarms ∧
    (hostStoreByte b v s).amc.finish = s.amc.finish ∧ (hostStoreByte b v s).amc.changeover = s.amc.changeover ∧
    (hostStoreByte b v s).cta = s.cta ∧ (hostStoreByte b v s).tlk = s.tlk ∧ (hostStoreByte b v s).flk = s.flk ∧
    (hostStoreByte b v s).fxc = s.fxc ∧ (hostStoreByte b v s).phc = s.phc ∧ (hostStoreByte b v s).ptc = s.ptc ∧
    (hostStoreByte b v s).exm = s.exm ∧ (hostStoreByte b v s).free = s.free ∧
    (hostStoreByte b v s).pending = s.pending := by
  unfold hostStoreByte; (try dsimp only) <;> (repeat' split) <;> simp

@[simp] theorem hostStore_keeps (a : Nat) (en : Enables) (data : Half) (s : State) :
    (hostStore a en data s).hpx = s.hpx ∧ (hostStore a en data s).dkc = s.dkc ∧ (hostStore a en data s).cvt = s.cvt
    ∧ SameAmcButProfile s (hostStore a en data s) ∧ (hostStore a en data s).amc.mode = s.amc.mode ∧
    (hostStore a en data s).amc.profile = s.amc.profile ∧ (hostStore a en data s).amc.alarms = s.amc.alarms ∧
    (hostStore a en data s).amc.finish = s.amc.finish ∧ (hostStore a en data s).amc.changeover = s.amc.changeover ∧
    (hostStore a en data s).cta = s.cta ∧ (hostStore a en data s).tlk = s.tlk ∧ (hostStore a en data s).flk = s.flk
    ∧ (hostStore a en data s).fxc = s.fxc ∧ (hostStore a en data s).phc = s.phc ∧
    (hostStore a en data s).ptc = s.ptc ∧ (hostStore a en data s).exm = s.exm ∧
    (hostStore a en data s).free = s.free ∧ (hostStore a en data s).pending = s.pending := by
  unfold hostStore; (try dsimp only) <;> (repeat' split) <;> simp

@[simp] theorem plainWrite_keeps (a : Half) (en : Enables) (data : Half) (s : State) :
    (plainWrite a en data s).hpx.phase = s.hpx.phase ∧ (plainWrite a en data s).hpx.slot = s.hpx.slot ∧
    (plainWrite a en data s).hpx.parityAddr = s.hpx.parityAddr ∧
    (plainWrite a en data s).hpx.parityInvert = s.hpx.parityInvert ∧
    (plainWrite a en data s).hpx.attnMask = s.hpx.attnMask ∧ (plainWrite a en data s).hpx.handed = s.hpx.handed ∧
    (plainWrite a en data s).dkc = s.dkc ∧ (plainWrite a en data s).cvt = s.cvt ∧
    SameAmcButProfile s (plainWrite a en data s) ∧ (plainWrite a en data s).amc.mode = s.amc.mode ∧
    (plainWrite a en data s).amc.profile = s.amc.profile ∧ (plainWrite a en data s).amc.alarms = s.amc.alarms ∧
    (plainWrite a en data s).amc.finish = s.amc.finish ∧ (plainWrite a en data s).amc.changeover = s.amc.changeover
    ∧ (plainWrite a en data s).cta = s.cta ∧ (plainWrite a en data s).tlk = s.tlk ∧
    (plainWrite a en data s).flk = s.flk ∧ (plainWrite a en data s).fxc = s.fxc ∧
    (plainWrite a en data s).phc = s.phc ∧ (plainWrite a en data s).ptc = s.ptc ∧
    (plainWrite a en data s).exm = s.exm ∧ (plainWrite a en data s).free = s.free ∧
    (plainWrite a en data s).pending = s.pending := by
  unfold plainWrite; (try dsimp only) <;> (repeat' split) <;> simp

@[simp] theorem watchedPath_keeps (a : Half) (en : Enables) (data : Half) (s : State) :
    OnlyHpx s (watchedPath a en data s) ∧ (watchedPath a en data s).hpx.phase = s.hpx.phase ∧
    (watchedPath a en data s).hpx.refusal = s.hpx.refusal ∧
    (watchedPath a en data s).hpx.parityAddr = s.hpx.parityAddr ∧
    (watchedPath a en data s).hpx.parityInvert = s.hpx.parityInvert ∧
    (watchedPath a en data s).hpx.attn = s.hpx.attn ∧ (watchedPath a en data s).hpx.attnMask = s.hpx.attnMask ∧
    (watchedPath a en data s).hpx.handed = s.hpx.handed := by
  unfold watchedPath; (try dsimp only) <;> (repeat' split) <;> simp

@[simp] theorem readXm_keeps (a : Nat) (en : Enables) (s : State) :
    OnlyHpx s (readXm a en s) ∧ (readXm a en s).hpx.phase = s.hpx.phase ∧ (readXm a en s).hpx.slot = s.hpx.slot ∧
    (readXm a en s).hpx.refusal = s.hpx.refusal ∧ (readXm a en s).hpx.parityInvert = s.hpx.parityInvert ∧
    (readXm a en s).hpx.attnMask = s.hpx.attnMask ∧ (readXm a en s).hpx.handed = s.hpx.handed := by
  unfold readXm; (try dsimp only) <;> (repeat' split) <;> simp

@[simp] theorem slotExpiry_keeps (s : State) :
    OnlyHpx s (slotExpiry s) ∧ (slotExpiry s).hpx.phase = s.hpx.phase ∧ (slotExpiry s).hpx.answer = s.hpx.answer ∧
    (slotExpiry s).hpx.refusal = s.hpx.refusal ∧ (slotExpiry s).hpx.parityAddr = s.hpx.parityAddr ∧
    (slotExpiry s).hpx.parityInvert = s.hpx.parityInvert ∧ (slotExpiry s).hpx.attn = s.hpx.attn ∧
    (slotExpiry s).hpx.attnMask = s.hpx.attnMask ∧ (slotExpiry s).hpx.handed = s.hpx.handed := by
  unfold slotExpiry; (try dsimp only) <;> (repeat' split) <;> simp

@[simp] theorem acceptAnnounced_keeps (d : DocketNo) (s : State) :
    (acceptAnnounced d s).hpx = s.hpx ∧ (acceptAnnounced d s).dkc.unannounced = s.dkc.unannounced ∧
    (acceptAnnounced d s).dkc.window = s.dkc.window ∧ (acceptAnnounced d s).dkc.buffer = s.dkc.buffer ∧
    (acceptAnnounced d s).dkc.bad = s.dkc.bad ∧ (acceptAnnounced d s).dkc.rxHeld = s.dkc.rxHeld ∧
    (acceptAnnounced d s).dkc.rxPast = s.dkc.rxPast ∧
    (acceptAnnounced d s).cvt = s.cvt ∧ (acceptAnnounced d s).amc = s.amc ∧ (acceptAnnounced d s).cta = s.cta ∧
    (acceptAnnounced d s).tlk = s.tlk ∧ (acceptAnnounced d s).flk = s.flk ∧ (acceptAnnounced d s).fxc = s.fxc ∧
    (acceptAnnounced d s).phc = s.phc ∧ (acceptAnnounced d s).ptc = s.ptc ∧ (acceptAnnounced d s).exm = s.exm ∧
    (acceptAnnounced d s).free = s.free ∧ (acceptAnnounced d s).pending = s.pending := by
  unfold acceptAnnounced; (try dsimp only) <;> (repeat' split) <;> simp

@[simp] theorem refuseAnnounced_keeps (d : DocketNo) (why : DocketRefusal) (s : State) :
    OnlyCells s (refuseAnnounced d why s) := by
  unfold refuseAnnounced; (try dsimp only) <;> (repeat' split) <;> simp

@[simp] theorem announce_keeps (d : DocketNo) (s : State) :
    SameHpxButParity s (announce d s) ∧ (announce d s).dkc.unannounced = s.dkc.unannounced ∧
    (announce d s).dkc.window = s.dkc.window ∧ (announce d s).dkc.buffer = s.dkc.buffer ∧
    (announce d s).dkc.bad = s.dkc.bad ∧ (announce d s).dkc.rxHeld = s.dkc.rxHeld ∧
    (announce d s).dkc.rxPast = s.dkc.rxPast ∧ (announce d s).cvt = s.cvt ∧
    (announce d s).amc = s.amc ∧ (announce d s).cta = s.cta ∧ (announce d s).tlk = s.tlk ∧
    (announce d s).flk = s.flk ∧ (announce d s).fxc = s.fxc ∧ (announce d s).phc = s.phc ∧
    (announce d s).ptc = s.ptc ∧ (announce d s).exm = s.exm ∧ (announce d s).free = s.free ∧
    (announce d s).pending = s.pending := by
  unfold announce; (try dsimp only) <;> (repeat' split) <;> simp

@[simp] theorem freeDocket_keeps (d : DocketNo) (s : State) :
    OnlyRecords s (freeDocket d s) := by
  unfold freeDocket; (try dsimp only) <;> (repeat' split) <;> simp

@[simp] theorem withdrawDocket_keeps (d : DocketNo) (s : State) :
    (withdrawDocket d s).hpx = s.hpx ∧ (withdrawDocket d s).dkc.unannounced = s.dkc.unannounced ∧
    (withdrawDocket d s).dkc.window = s.dkc.window ∧ (withdrawDocket d s).dkc.buffer = s.dkc.buffer ∧
    (withdrawDocket d s).dkc.bad = s.dkc.bad ∧ (withdrawDocket d s).dkc.rxHeld = s.dkc.rxHeld ∧
    (withdrawDocket d s).dkc.rxPast = s.dkc.rxPast ∧
    (withdrawDocket d s).cvt = s.cvt ∧ (withdrawDocket d s).amc = s.amc ∧ (withdrawDocket d s).cta = s.cta ∧
    (withdrawDocket d s).tlk = s.tlk ∧ (withdrawDocket d s).flk = s.flk ∧ (withdrawDocket d s).fxc = s.fxc ∧
    (withdrawDocket d s).phc = s.phc ∧ (withdrawDocket d s).ptc = s.ptc ∧ (withdrawDocket d s).exm = s.exm ∧
    (withdrawDocket d s).free = s.free ∧ (withdrawDocket d s).pending = s.pending := by
  unfold withdrawDocket; (try dsimp only) <;> (repeat' split) <;> simp

@[simp] theorem ruleDocket_keeps (d : DocketNo) (v : Byte) (s : State) :
    (ruleDocket d v s).hpx.phase = s.hpx.phase ∧ (ruleDocket d v s).hpx.answer = s.hpx.answer ∧
    (ruleDocket d v s).hpx.parityInvert = s.hpx.parityInvert ∧ (ruleDocket d v s).hpx.attnMask = s.hpx.attnMask ∧
    (ruleDocket d v s).hpx.handed = s.hpx.handed ∧ (ruleDocket d v s).dkc.unannounced = s.dkc.unannounced ∧
    (ruleDocket d v s).dkc.window = s.dkc.window ∧ (ruleDocket d v s).dkc.buffer = s.dkc.buffer ∧
    (ruleDocket d v s).dkc.bad = s.dkc.bad ∧ (ruleDocket d v s).dkc.rxHeld = s.dkc.rxHeld ∧
    (ruleDocket d v s).dkc.rxPast = s.dkc.rxPast ∧
    (ruleDocket d v s).cvt = s.cvt ∧ (ruleDocket d v s).amc = s.amc ∧ (ruleDocket d v s).cta = s.cta ∧
    (ruleDocket d v s).tlk = s.tlk ∧ (ruleDocket d v s).flk = s.flk ∧ (ruleDocket d v s).fxc = s.fxc ∧
    (ruleDocket d v s).phc = s.phc ∧ (ruleDocket d v s).ptc = s.ptc ∧ (ruleDocket d v s).exm = s.exm ∧
    (ruleDocket d v s).free = s.free ∧ (ruleDocket d v s).pending = s.pending := by
  unfold ruleDocket; (try dsimp only) <;> (repeat' split) <;> simp

@[simp] theorem handOverRecipe_keeps (r : RecipeNo) (s : State) :
    SameHpxButParity s (handOverRecipe r s) ∧ (handOverRecipe r s).dkc = s.dkc ∧ (handOverRecipe r s).cvt = s.cvt ∧
    (handOverRecipe r s).amc = s.amc ∧ (handOverRecipe r s).cta = s.cta ∧ (handOverRecipe r s).tlk = s.tlk ∧
    (handOverRecipe r s).flk = s.flk ∧ (handOverRecipe r s).fxc = s.fxc ∧ (handOverRecipe r s).phc = s.phc ∧
    (handOverRecipe r s).ptc = s.ptc ∧ (handOverRecipe r s).exm = s.exm ∧ (handOverRecipe r s).free = s.free ∧
    (handOverRecipe r s).pending = s.pending := by
  unfold handOverRecipe; (try dsimp only) <;> (repeat' split) <;> simp

@[simp] theorem emptyRecipe_keeps (r : RecipeNo) (s : State) :
    OnlyRecords s (emptyRecipe r s) := by
  unfold emptyRecipe; (try dsimp only) <;> (repeat' split) <;> simp

@[simp] theorem takeRequest_keeps (c : CellNo) (s : State) :
    (takeRequest c s).hpx.phase = s.hpx.phase ∧ (takeRequest c s).hpx.answer = s.hpx.answer ∧
    (takeRequest c s).hpx.slot = s.hpx.slot ∧ (takeRequest c s).hpx.refusal = s.hpx.refusal ∧
    (takeRequest c s).hpx.parityAddr = s.hpx.parityAddr ∧ (takeRequest c s).hpx.parityInvert = s.hpx.parityInvert ∧
    (takeRequest c s).hpx.attn = s.hpx.attn ∧ (takeRequest c s).hpx.attnMask = s.hpx.attnMask ∧
    (takeRequest c s).dkc = s.dkc ∧ (takeRequest c s).cvt = s.cvt ∧ (takeRequest c s).amc = s.amc ∧
    (takeRequest c s).cta = s.cta ∧ (takeRequest c s).tlk = s.tlk ∧ (takeRequest c s).flk = s.flk ∧
    (takeRequest c s).fxc = s.fxc ∧ (takeRequest c s).phc = s.phc ∧ (takeRequest c s).ptc = s.ptc ∧
    (takeRequest c s).exm = s.exm ∧ (takeRequest c s).free = s.free ∧ (takeRequest c s).pending = s.pending := by
  unfold takeRequest; (try dsimp only) <;> (repeat' split) <;> simp

@[simp] theorem dispatch_keeps (c : CellNo) (s : State) :
    (dispatch c s).hpx.phase = s.hpx.phase ∧ (dispatch c s).hpx.answer = s.hpx.answer ∧
    (dispatch c s).hpx.slot = s.hpx.slot ∧ (dispatch c s).hpx.refusal = s.hpx.refusal ∧
    (dispatch c s).hpx.parityInvert = s.hpx.parityInvert ∧ (dispatch c s).hpx.attnMask = s.hpx.attnMask ∧
    (dispatch c s).dkc = s.dkc ∧ (dispatch c s).cvt = s.cvt ∧ (dispatch c s).amc = s.amc ∧
    (dispatch c s).cta = s.cta ∧ (dispatch c s).tlk = s.tlk ∧ (dispatch c s).flk = s.flk ∧
    (dispatch c s).fxc = s.fxc ∧ (dispatch c s).phc = s.phc ∧ (dispatch c s).ptc = s.ptc ∧
    (dispatch c s).exm = s.exm ∧ (dispatch c s).free = s.free ∧ (dispatch c s).pending = s.pending := by
  unfold dispatch; (try dsimp only) <;> (repeat' split) <;> simp

@[simp] theorem ruleCell_keeps (c : CellNo) (v : Byte) (s : State) :
    (ruleCell c v s).hpx.phase = s.hpx.phase ∧ (ruleCell c v s).hpx.answer = s.hpx.answer ∧
    (ruleCell c v s).hpx.parityInvert = s.hpx.parityInvert ∧ (ruleCell c v s).hpx.attnMask = s.hpx.attnMask ∧
    (ruleCell c v s).dkc = s.dkc ∧ (ruleCell c v s).cvt = s.cvt ∧ (ruleCell c v s).amc = s.amc ∧
    (ruleCell c v s).cta = s.cta ∧ (ruleCell c v s).tlk = s.tlk ∧ (ruleCell c v s).flk = s.flk ∧
    (ruleCell c v s).fxc = s.fxc ∧ (ruleCell c v s).phc = s.phc ∧ (ruleCell c v s).ptc = s.ptc ∧
    (ruleCell c v s).exm = s.exm ∧ (ruleCell c v s).free = s.free ∧ (ruleCell c v s).pending = s.pending := by
  unfold ruleCell; (try dsimp only) <;> (repeat' split) <;> simp

@[simp] theorem refuseRecord_keeps (c : CellNo) (off : Nat) (record : Half) (s : State) :
    OnlyCells s (refuseRecord c off record s) := by
  unfold refuseRecord; (try dsimp only) <;> (repeat' split) <;> simp

@[simp] theorem refuseSafe_keeps (c : CellNo) (s : State) :
    OnlyCells s (refuseSafe c s) := by
  unfold refuseSafe; (try dsimp only) <;> (repeat' split) <;> simp

@[simp] theorem takeDescription_keeps (s : State) :
    (takeDescription s).hpx = s.hpx ∧ (takeDescription s).dkc.arrival = s.dkc.arrival ∧
    (takeDescription s).dkc.unannounced = s.dkc.unannounced ∧ (takeDescription s).dkc.window = s.dkc.window ∧
    (takeDescription s).dkc.buffer = s.dkc.buffer ∧ (takeDescription s).dkc.bad = s.dkc.bad ∧
    (takeDescription s).dkc.rxHeld = s.dkc.rxHeld ∧
    (takeDescription s).cvt.travel = s.cvt.travel ∧ (takeDescription s).cvt.mmTicksDue = s.cvt.mmTicksDue ∧
    (takeDescription s).cvt.thisInterval = s.cvt.thisInterval ∧
    (takeDescription s).cvt.prevInterval = s.cvt.prevInterval ∧
    (takeDescription s).cvt.measuredSpeed = s.cvt.measuredSpeed ∧ (takeDescription s).cvt.drive = s.cvt.drive ∧
    (takeDescription s).cvt.reference = s.cvt.reference ∧ (takeDescription s).cvt.target = s.cvt.target ∧
    (takeDescription s).cvt.stall = s.cvt.stall ∧ (takeDescription s).cvt.map = s.cvt.map ∧
    (takeDescription s).cvt.entryEye = s.cvt.entryEye ∧ (takeDescription s).cvt.exitEye = s.cvt.exitEye ∧
    (takeDescription s).cvt.entryTracked = s.cvt.entryTracked ∧ (takeDescription s).cvt.exitEdge = s.cvt.exitEdge ∧
    (takeDescription s).cvt.upOffer = s.cvt.upOffer ∧ (takeDescription s).cvt.dnAccept = s.cvt.dnAccept ∧
    (takeDescription s).cvt.downstream = s.cvt.downstream ∧ (takeDescription s).cvt.nextSpeed = s.cvt.nextSpeed ∧
    (takeDescription s).cvt.nextRamp = s.cvt.nextRamp ∧ (takeDescription s).amc.ticks = s.amc.ticks ∧
    (takeDescription s).amc.mode = s.amc.mode ∧ (takeDescription s).amc.alarms = s.amc.alarms ∧
    (takeDescription s).amc.chainOpen = s.amc.chainOpen ∧ (takeDescription s).amc.chainCount = s.amc.chainCount ∧
    (takeDescription s).amc.finish = s.amc.finish ∧ (takeDescription s).amc.changeover = s.amc.changeover ∧
    (takeDescription s).cta = s.cta ∧ (takeDescription s).tlk = s.tlk ∧ (takeDescription s).flk = s.flk ∧
    (takeDescription s).fxc = s.fxc ∧ (takeDescription s).phc = s.phc ∧ (takeDescription s).ptc = s.ptc ∧
    (takeDescription s).exm = s.exm ∧ (takeDescription s).xm = s.xm ∧ (takeDescription s).free = s.free ∧
    (takeDescription s).pending = s.pending := by
  unfold takeDescription; (try dsimp only) <;> (repeat' split) <;> simp

@[simp] theorem levelStart_keeps (s : State) :
    SameHpx s (levelStart s) ∧ (levelStart s).dkc = s.dkc ∧ (levelStart s).cvt = s.cvt ∧ SameAmc s (levelStart s) ∧
    (levelStart s).tlk = s.tlk ∧ (levelStart s).flk = s.flk ∧ SameFluxInputs s (levelStart s) ∧
    (levelStart s).phc = s.phc ∧ (levelStart s).ptc.pot = s.ptc.pot ∧ (levelStart s).ptc.chip = s.ptc.chip ∧
    (levelStart s).ptc.main = s.ptc.main ∧ (levelStart s).ptc.chipList = s.ptc.chipList ∧
    (levelStart s).ptc.mainList = s.ptc.mainList ∧ (levelStart s).ptc.mainLeftRamping = s.ptc.mainLeftRamping ∧
    (levelStart s).ptc.calibrate = s.ptc.calibrate ∧ (levelStart s).ptc.potPeriodStart = s.ptc.potPeriodStart ∧
    (levelStart s).ptc.nextPotPeriod = s.ptc.nextPotPeriod ∧ (levelStart s).ptc.nextRamp = s.ptc.nextRamp ∧
    (levelStart s).ptc.nextEcho = s.ptc.nextEcho ∧ (levelStart s).exm = s.exm ∧ (levelStart s).free = s.free ∧
    (levelStart s).pending = s.pending := by
  unfold levelStart; (try dsimp only) <;> (repeat' split) <;> simp

@[simp] theorem acceptStart_keeps (c : CellNo) (s : State) :
    SameHpx s (acceptStart c s) ∧ (acceptStart c s).dkc.arrival = s.dkc.arrival ∧
    (acceptStart c s).dkc.unannounced = s.dkc.unannounced ∧ (acceptStart c s).dkc.window = s.dkc.window ∧
    (acceptStart c s).dkc.buffer = s.dkc.buffer ∧ (acceptStart c s).dkc.bad = s.dkc.bad ∧
    (acceptStart c s).dkc.rxHeld = s.dkc.rxHeld ∧ (acceptStart c s).cvt.travel = s.cvt.travel ∧
    (acceptStart c s).cvt.mmTicksDue = s.cvt.mmTicksDue ∧ (acceptStart c s).cvt.thisInterval = s.cvt.thisInterval ∧
    (acceptStart c s).cvt.prevInterval = s.cvt.prevInterval ∧
    (acceptStart c s).cvt.measuredSpeed = s.cvt.measuredSpeed ∧ (acceptStart c s).cvt.reference = s.cvt.reference ∧
    (acceptStart c s).cvt.stall = s.cvt.stall ∧ (acceptStart c s).cvt.map = s.cvt.map ∧
    (acceptStart c s).cvt.entryEye = s.cvt.entryEye ∧ (acceptStart c s).cvt.exitEye = s.cvt.exitEye ∧
    (acceptStart c s).cvt.entryTracked = s.cvt.entryTracked ∧ (acceptStart c s).cvt.exitEdge = s.cvt.exitEdge ∧
    (acceptStart c s).cvt.upOffer = s.cvt.upOffer ∧ (acceptStart c s).cvt.dnAccept = s.cvt.dnAccept ∧
    (acceptStart c s).cvt.nextSpeed = s.cvt.nextSpeed ∧ (acceptStart c s).cvt.nextRamp = s.cvt.nextRamp ∧
    (acceptStart c s).amc.ticks = s.amc.ticks ∧ (acceptStart c s).amc.chainOpen = s.amc.chainOpen ∧
    (acceptStart c s).amc.chainCount = s.amc.chainCount ∧ (acceptStart c s).amc.finish = s.amc.finish ∧
    (acceptStart c s).amc.changeover = s.amc.changeover ∧ (acceptStart c s).tlk = s.tlk ∧
    (acceptStart c s).flk.poll = s.flk.poll ∧ (acceptStart c s).flk.nextPoll = s.flk.nextPoll ∧
    (acceptStart c s).fxc.pressureOk = s.fxc.pressureOk ∧ (acceptStart c s).fxc.pressureCount = s.fxc.pressureCount
    ∧ (acceptStart c s).fxc.tankHigh = s.fxc.tankHigh ∧ (acceptStart c s).fxc.tankCount = s.fxc.tankCount ∧
    (acceptStart c s).phc.periodStart = s.phc.periodStart ∧ (acceptStart c s).phc.nextPeriod = s.phc.nextPeriod ∧
    (acceptStart c s).phc.pyro = s.phc.pyro ∧ (acceptStart c s).ptc.chipList = s.ptc.chipList ∧
    (acceptStart c s).ptc.mainList = s.ptc.mainList ∧ (acceptStart c s).ptc.potPeriodStart = s.ptc.potPeriodStart ∧
    (acceptStart c s).ptc.nextPotPeriod = s.ptc.nextPotPeriod ∧ (acceptStart c s).ptc.nextRamp = s.ptc.nextRamp ∧
    (acceptStart c s).ptc.nextEcho = s.ptc.nextEcho ∧ (acceptStart c s).exm.ductDp = s.exm.ductDp ∧
    (acceptStart c s).exm.filterDp = s.exm.filterDp ∧ (acceptStart c s).exm.fanRpm = s.exm.fanRpm ∧
    (acceptStart c s).pending = s.pending := by
  unfold acceptStart; (try dsimp only) <;> (repeat' split) <;> simp

@[simp] theorem refuseSelect_keeps (c : CellNo) (r : RequestResult) (reply0 : Half) (s : State) :
    OnlyCells s (refuseSelect c r reply0 s) := by
  unfold refuseSelect; (try dsimp only) <;> (repeat' split) <;> simp

@[simp] theorem enterDrain_keeps (c : CellNo) (n : Nat) (s : State) :
    SameHpx s (enterDrain c n s) ∧ (enterDrain c n s).dkc = s.dkc ∧ SameCvtButDrive s (enterDrain c n s) ∧
    (enterDrain c n s).cvt.reference = s.cvt.reference ∧ (enterDrain c n s).cvt.stall = s.cvt.stall ∧
    (enterDrain c n s).cvt.downstream = s.cvt.downstream ∧ SameAmcButProfile s (enterDrain c n s) ∧
    (enterDrain c n s).amc.mode = s.amc.mode ∧ (enterDrain c n s).amc.finish = s.amc.finish ∧
    (enterDrain c n s).tlk = s.tlk ∧ (enterDrain c n s).flk = s.flk ∧ SameFluxInputs s (enterDrain c n s) ∧
    (enterDrain c n s).phc.periodStart = s.phc.periodStart ∧ (enterDrain c n s).phc.nextPeriod = s.phc.nextPeriod ∧
    (enterDrain c n s).phc.pyro = s.phc.pyro ∧ SamePtcButPumps s (enterDrain c n s) ∧ (enterDrain c n s).exm = s.exm
    ∧ (enterDrain c n s).pending = s.pending := by
  unfold enterDrain; (try dsimp only) <;> (repeat' split) <;> simp

@[simp] theorem selectJudged_keeps (c : CellNo) (n : Nat) (s : State) :
    SameHpxButParity s (selectJudged c n s) ∧ (selectJudged c n s).dkc = s.dkc ∧
    SameCvtButDrive s (selectJudged c n s) ∧ (selectJudged c n s).cvt.reference = s.cvt.reference ∧
    (selectJudged c n s).cvt.stall = s.cvt.stall ∧ (selectJudged c n s).cvt.downstream = s.cvt.downstream ∧
    SameAmcButProfile s (selectJudged c n s) ∧ (selectJudged c n s).amc.mode = s.amc.mode ∧
    (selectJudged c n s).amc.finish = s.amc.finish ∧ (selectJudged c n s).tlk = s.tlk ∧
    (selectJudged c n s).flk = s.flk ∧ SameFluxInputs s (selectJudged c n s) ∧
    (selectJudged c n s).phc.periodStart = s.phc.periodStart ∧
    (selectJudged c n s).phc.nextPeriod = s.phc.nextPeriod ∧ (selectJudged c n s).phc.pyro = s.phc.pyro ∧
    SamePtcButPumps s (selectJudged c n s) ∧ (selectJudged c n s).exm = s.exm ∧
    (selectJudged c n s).pending = s.pending := by
  unfold selectJudged; (try dsimp only) <;> (repeat' split) <;> simp

@[simp] theorem wireFeedNotice_keeps (before : AlarmState) (s : State) :
    OnlyPtc s (wireFeedNotice before s) ∧ SamePtcButPumps s (wireFeedNotice before s) ∧
    (wireFeedNotice before s).ptc.pot = s.ptc.pot ∧ (wireFeedNotice before s).ptc.chip = s.ptc.chip ∧
    (wireFeedNotice before s).ptc.main = s.ptc.main ∧
    (wireFeedNotice before s).ptc.mainLeftRamping = s.ptc.mainLeftRamping ∧
    (wireFeedNotice before s).ptc.calibrate = s.ptc.calibrate ∧ (wireFeedNotice before s).ptc.feed = s.ptc.feed := by
  unfold wireFeedNotice; (try dsimp only) <;> (repeat' split) <;> simp

@[simp] theorem acknowledgeAll_keeps (l : List Alarm) (s : State) :
    OnlyModeActs s (acknowledgeAll l s) := by
  unfold acknowledgeAll; (try dsimp only) <;> (repeat' split) <;> simp

@[simp] theorem refusePurge_keeps (c : CellNo) (r : RequestResult) (reply6 : Half) (s : State) :
    OnlyCells s (refusePurge c r reply6 s) := by
  unfold refusePurge; (try dsimp only) <;> (repeat' split) <;> simp

@[simp] theorem feedAtOnce_keeps (c : CellNo) (cause : Half) (s : State) :
    SameHpx s (feedAtOnce c cause s) ∧ (feedAtOnce c cause s).dkc = s.dkc ∧ (feedAtOnce c cause s).cvt = s.cvt ∧
    (feedAtOnce c cause s).amc = s.amc ∧ (feedAtOnce c cause s).cta = s.cta ∧ (feedAtOnce c cause s).tlk = s.tlk ∧
    (feedAtOnce c cause s).flk = s.flk ∧ (feedAtOnce c cause s).fxc = s.fxc ∧ (feedAtOnce c cause s).phc = s.phc ∧
    SamePtcButPumps s (feedAtOnce c cause s) ∧ (feedAtOnce c cause s).ptc.pot = s.ptc.pot ∧
    (feedAtOnce c cause s).ptc.chip = s.ptc.chip ∧ (feedAtOnce c cause s).ptc.main = s.ptc.main ∧
    (feedAtOnce c cause s).ptc.mainLeftRamping = s.ptc.mainLeftRamping ∧
    (feedAtOnce c cause s).ptc.feedTimer = s.ptc.feedTimer ∧ (feedAtOnce c cause s).ptc.calibrate = s.ptc.calibrate
    ∧ (feedAtOnce c cause s).ptc.feed = s.ptc.feed ∧ (feedAtOnce c cause s).exm = s.exm ∧
    (feedAtOnce c cause s).free = s.free ∧ (feedAtOnce c cause s).pending = s.pending := by
  unfold feedAtOnce; (try dsimp only) <;> (repeat' split) <;> simp

@[simp] theorem feedTaken_keeps (c : CellNo) (duration : Nat) (s : State) :
    SameHpx s (feedTaken c duration s) ∧ (feedTaken c duration s).dkc = s.dkc ∧ (feedTaken c duration s).cvt = s.cvt
    ∧ (feedTaken c duration s).amc = s.amc ∧ (feedTaken c duration s).cta = s.cta ∧
    (feedTaken c duration s).tlk = s.tlk ∧ (feedTaken c duration s).flk = s.flk ∧
    (feedTaken c duration s).fxc = s.fxc ∧ (feedTaken c duration s).phc = s.phc ∧
    SamePtcButPumps s (feedTaken c duration s) ∧ (feedTaken c duration s).ptc.pot = s.ptc.pot ∧
    (feedTaken c duration s).ptc.chip = s.ptc.chip ∧ (feedTaken c duration s).ptc.main = s.ptc.main ∧
    (feedTaken c duration s).ptc.mainLeftRamping = s.ptc.mainLeftRamping ∧
    (feedTaken c duration s).ptc.calibrate = s.ptc.calibrate ∧ (feedTaken c duration s).exm = s.exm ∧
    (feedTaken c duration s).free = s.free ∧ (feedTaken c duration s).pending = s.pending := by
  unfold feedTaken; (try dsimp only) <;> (repeat' split) <;> simp

@[simp] theorem cancelUnruled_keeps (t : CellNo) (r : Request) (s : State) :
    (cancelUnruled t r s).hpx.phase = s.hpx.phase ∧ (cancelUnruled t r s).hpx.answer = s.hpx.answer ∧
    (cancelUnruled t r s).hpx.slot = s.hpx.slot ∧ (cancelUnruled t r s).hpx.refusal = s.hpx.refusal ∧
    (cancelUnruled t r s).hpx.parityAddr = s.hpx.parityAddr ∧
    (cancelUnruled t r s).hpx.parityInvert = s.hpx.parityInvert ∧
    (cancelUnruled t r s).hpx.attnMask = s.hpx.attnMask ∧ (cancelUnruled t r s).dkc = s.dkc ∧
    (cancelUnruled t r s).cvt = s.cvt ∧ (cancelUnruled t r s).amc = s.amc ∧ (cancelUnruled t r s).cta = s.cta ∧
    (cancelUnruled t r s).tlk = s.tlk ∧ (cancelUnruled t r s).flk = s.flk ∧ (cancelUnruled t r s).fxc = s.fxc ∧
    (cancelUnruled t r s).phc = s.phc ∧ (cancelUnruled t r s).ptc = s.ptc ∧ (cancelUnruled t r s).exm = s.exm ∧
    (cancelUnruled t r s).free = s.free ∧ (cancelUnruled t r s).pending = s.pending := by
  unfold cancelUnruled; (try dsimp only) <;> (repeat' split) <;> simp

@[simp] theorem cancelPurge_keeps (s : State) :
    OnlyFlux s (cancelPurge s) ∧ (cancelPurge s).fxc.board = s.fxc.board := by
  unfold cancelPurge; (try dsimp only) <;> (repeat' split) <;> simp

@[simp] theorem cancelMeasure_keeps (s : State) :
    OnlyClaims s (cancelMeasure s) ∧ (cancelMeasure s).cta.results = s.cta.results := by
  unfold cancelMeasure; (try dsimp only) <;> (repeat' split) <;> simp

@[simp] theorem cancelRunning_keeps (r : Request) (s : State) :
    OnlyModeActs s (cancelRunning r s) ∧ (cancelRunning r s).cvt.reference = s.cvt.reference ∧
    (cancelRunning r s).cvt.stall = s.cvt.stall := by
  unfold cancelRunning; (try dsimp only) <;> (repeat' split) <;> simp

@[simp] theorem cancelTarget_keeps (t : CellNo) (r : Request) (s : State) :
    (cancelTarget t r s).hpx.phase = s.hpx.phase ∧ (cancelTarget t r s).hpx.answer = s.hpx.answer ∧
    (cancelTarget t r s).hpx.slot = s.hpx.slot ∧ (cancelTarget t r s).hpx.refusal = s.hpx.refusal ∧
    (cancelTarget t r s).hpx.parityAddr = s.hpx.parityAddr ∧
    (cancelTarget t r s).hpx.parityInvert = s.hpx.parityInvert ∧ (cancelTarget t r s).hpx.attnMask = s.hpx.attnMask
    ∧ (cancelTarget t r s).dkc = s.dkc ∧ SameCvtButDrive s (cancelTarget t r s) ∧
    (cancelTarget t r s).cvt.reference = s.cvt.reference ∧ (cancelTarget t r s).cvt.stall = s.cvt.stall ∧
    SameAmcButMode s (cancelTarget t r s) ∧ (cancelTarget t r s).tlk = s.tlk ∧ (cancelTarget t r s).flk = s.flk ∧
    SameFluxInputs s (cancelTarget t r s) ∧ (cancelTarget t r s).phc.periodStart = s.phc.periodStart ∧
    (cancelTarget t r s).phc.nextPeriod = s.phc.nextPeriod ∧ (cancelTarget t r s).phc.pyro = s.phc.pyro ∧
    SamePtcButPumps s (cancelTarget t r s) ∧ (cancelTarget t r s).exm = s.exm ∧
    (cancelTarget t r s).pending = s.pending := by
  unfold cancelTarget; (try dsimp only) <;> (repeat' split) <;> simp

@[simp] theorem readTargetCode_keeps (t : CellNo) (s : State) :
    SameHpxButParity s (readTargetCode t s) ∧ (readTargetCode t s).dkc = s.dkc ∧ (readTargetCode t s).cvt = s.cvt ∧
    (readTargetCode t s).amc = s.amc ∧ (readTargetCode t s).cta = s.cta ∧ (readTargetCode t s).tlk = s.tlk ∧
    (readTargetCode t s).flk = s.flk ∧ (readTargetCode t s).fxc = s.fxc ∧ (readTargetCode t s).phc = s.phc ∧
    (readTargetCode t s).ptc = s.ptc ∧ (readTargetCode t s).exm = s.exm ∧ (readTargetCode t s).xm = s.xm ∧
    (readTargetCode t s).free = s.free ∧ (readTargetCode t s).pending = s.pending := by
  unfold readTargetCode; (try dsimp only) <;> (repeat' split) <;> simp

@[simp] theorem cancelCell_keeps (c t : CellNo) (s : State) :
    (cancelCell c t s).hpx.phase = s.hpx.phase ∧ (cancelCell c t s).hpx.answer = s.hpx.answer ∧
    (cancelCell c t s).hpx.slot = s.hpx.slot ∧ (cancelCell c t s).hpx.refusal = s.hpx.refusal ∧
    (cancelCell c t s).hpx.parityInvert = s.hpx.parityInvert
    ∧ (cancelCell c t s).hpx.attnMask = s.hpx.attnMask ∧ (cancelCell c t s).dkc = s.dkc ∧
    SameCvtButDrive s (cancelCell c t s) ∧ (cancelCell c t s).cvt.reference = s.cvt.reference ∧
    (cancelCell c t s).cvt.stall = s.cvt.stall ∧ SameAmcButMode s (cancelCell c t s) ∧
    (cancelCell c t s).tlk = s.tlk ∧ (cancelCell c t s).flk = s.flk ∧ SameFluxInputs s (cancelCell c t s) ∧
    (cancelCell c t s).phc.periodStart = s.phc.periodStart ∧ (cancelCell c t s).phc.nextPeriod = s.phc.nextPeriod ∧
    (cancelCell c t s).phc.pyro = s.phc.pyro ∧ SamePtcButPumps s (cancelCell c t s) ∧ (cancelCell c t s).exm = s.exm
    ∧ (cancelCell c t s).pending = s.pending := by
  unfold cancelCell; (try dsimp only) <;> (repeat' split) <;> simp

@[simp] theorem chainFlip_keeps (s : State) :
    SameHpx s (chainFlip s) ∧ (chainFlip s).dkc = s.dkc ∧ SameCvtButDrive s (chainFlip s) ∧
    (chainFlip s).amc.ticks = s.amc.ticks ∧ (chainFlip s).amc.activeProfile = s.amc.activeProfile ∧
    (chainFlip s).amc.inForce = s.amc.inForce ∧ (chainFlip s).amc.profile = s.amc.profile ∧
    (chainFlip s).tlk = s.tlk ∧ (chainFlip s).flk = s.flk ∧ SameFluxInputs s (chainFlip s) ∧
    (chainFlip s).phc.periodStart = s.phc.periodStart ∧ (chainFlip s).phc.nextPeriod = s.phc.nextPeriod ∧
    (chainFlip s).phc.pyro = s.phc.pyro ∧ SamePtcButPumps s (chainFlip s) ∧ (chainFlip s).exm = s.exm ∧
    (chainFlip s).pending = s.pending := by
  unfold chainFlip; (try dsimp only) <;> (repeat' split) <;> simp

@[simp] theorem chainDebounce_keeps (s : State) :
    SameHpx s (chainDebounce s) ∧ (chainDebounce s).dkc = s.dkc ∧ SameCvtButDrive s (chainDebounce s) ∧
    (chainDebounce s).amc.ticks = s.amc.ticks ∧ (chainDebounce s).amc.activeProfile = s.amc.activeProfile ∧
    (chainDebounce s).amc.inForce = s.amc.inForce ∧ (chainDebounce s).amc.profile = s.amc.profile ∧
    (chainDebounce s).tlk = s.tlk ∧ (chainDebounce s).flk = s.flk ∧ SameFluxInputs s (chainDebounce s) ∧
    (chainDebounce s).phc.periodStart = s.phc.periodStart ∧ (chainDebounce s).phc.nextPeriod = s.phc.nextPeriod ∧
    (chainDebounce s).phc.pyro = s.phc.pyro ∧ SamePtcButPumps s (chainDebounce s) ∧ (chainDebounce s).exm = s.exm ∧
    (chainDebounce s).pending = s.pending := by
  unfold chainDebounce; (try dsimp only) <;> (repeat' split) <;> simp

@[simp] theorem pressureDebounce_keeps (s : State) :
    SameHpx s (pressureDebounce s) ∧ (pressureDebounce s).dkc = s.dkc ∧ (pressureDebounce s).cvt = s.cvt ∧
    SameAmc s (pressureDebounce s) ∧ (pressureDebounce s).tlk = s.tlk ∧ (pressureDebounce s).flk = s.flk ∧
    (pressureDebounce s).fxc.period = s.fxc.period ∧ (pressureDebounce s).fxc.tankHigh = s.fxc.tankHigh ∧
    (pressureDebounce s).fxc.tankCount = s.fxc.tankCount ∧ (pressureDebounce s).phc = s.phc ∧
    (pressureDebounce s).ptc = s.ptc ∧ (pressureDebounce s).exm = s.exm ∧ (pressureDebounce s).free = s.free ∧
    (pressureDebounce s).pending = s.pending := by
  unfold pressureDebounce; (try dsimp only) <;> (repeat' split) <;> simp

@[simp] theorem tankDebounce_keeps (s : State) :
    SameHpx s (tankDebounce s) ∧ (tankDebounce s).dkc = s.dkc ∧ (tankDebounce s).cvt = s.cvt ∧
    SameAmc s (tankDebounce s) ∧ (tankDebounce s).tlk = s.tlk ∧ (tankDebounce s).flk = s.flk ∧
    (tankDebounce s).fxc.period = s.fxc.period ∧ (tankDebounce s).fxc.pressureOk = s.fxc.pressureOk ∧
    (tankDebounce s).fxc.pressureCount = s.fxc.pressureCount ∧ (tankDebounce s).phc = s.phc ∧
    (tankDebounce s).ptc = s.ptc ∧ (tankDebounce s).exm = s.exm ∧ (tankDebounce s).free = s.free ∧
    (tankDebounce s).pending = s.pending := by
  unfold tankDebounce; (try dsimp only) <;> (repeat' split) <;> simp

@[simp] theorem conveyorStall_keeps (s : State) :
    OnlyModeActs s (conveyorStall s) := by
  unfold conveyorStall; (try dsimp only) <;> (repeat' split) <;> simp

@[simp] theorem graceExpiry_keeps (s : State) :
    SameHpx s (graceExpiry s) ∧ (graceExpiry s).dkc = s.dkc ∧ SameCvtButDrive s (graceExpiry s) ∧
    SameAmcButMode s (graceExpiry s) ∧ (graceExpiry s).tlk = s.tlk ∧ (graceExpiry s).flk = s.flk ∧
    SameFluxInputs s (graceExpiry s) ∧ (graceExpiry s).phc.periodStart = s.phc.periodStart ∧
    (graceExpiry s).phc.nextPeriod = s.phc.nextPeriod ∧ (graceExpiry s).phc.pyro = s.phc.pyro ∧
    SamePtcButPumps s (graceExpiry s) ∧ (graceExpiry s).exm.fanOn = s.exm.fanOn ∧
    (graceExpiry s).exm.runOn = s.exm.runOn ∧ (graceExpiry s).exm.state = s.exm.state ∧
    (graceExpiry s).exm.suppression = s.exm.suppression ∧ (graceExpiry s).exm.airflowLow = s.exm.airflowLow ∧
    (graceExpiry s).exm.airflowLost = s.exm.airflowLost ∧ (graceExpiry s).exm.filterLoaded = s.exm.filterLoaded ∧
    (graceExpiry s).exm.filterClogged = s.exm.filterClogged ∧ (graceExpiry s).exm.fanStall = s.exm.fanStall ∧
    (graceExpiry s).exm.stallTimer = s.exm.stallTimer ∧ (graceExpiry s).exm.clearTimer = s.exm.clearTimer ∧
    (graceExpiry s).exm.linkDuct = s.exm.linkDuct ∧ (graceExpiry s).exm.linkFilter = s.exm.linkFilter ∧
    (graceExpiry s).exm.sensorLink = s.exm.sensorLink ∧ (graceExpiry s).exm.ductDp = s.exm.ductDp ∧
    (graceExpiry s).exm.filterDp = s.exm.filterDp ∧ (graceExpiry s).exm.fanRpm = s.exm.fanRpm ∧
    (graceExpiry s).pending = s.pending := by
  unfold graceExpiry; (try dsimp only) <;> (repeat' split) <;> simp

@[simp] theorem forceNoEdge_keeps (src : Source) (s : State) :
    SameHpx s (forceNoEdge src s) ∧ (forceNoEdge src s).dkc = s.dkc ∧ (forceNoEdge src s).cvt = s.cvt ∧
    SameAmc s (forceNoEdge src s) ∧ (forceNoEdge src s).tlk = s.tlk ∧ (forceNoEdge src s).flk = s.flk ∧
    SameFluxInputs s (forceNoEdge src s) ∧ (forceNoEdge src s).phc.zones = s.phc.zones ∧
    (forceNoEdge src s).phc.periodStart = s.phc.periodStart ∧ (forceNoEdge src s).phc.nextPeriod = s.phc.nextPeriod
    ∧ (forceNoEdge src s).ptc.pot = s.ptc.pot ∧ (forceNoEdge src s).ptc.potPeriodStart = s.ptc.potPeriodStart ∧
    (forceNoEdge src s).ptc.nextPotPeriod = s.ptc.nextPotPeriod ∧ (forceNoEdge src s).ptc.nextRamp = s.ptc.nextRamp
    ∧ (forceNoEdge src s).ptc.nextEcho = s.ptc.nextEcho ∧ (forceNoEdge src s).exm.fanOn = s.exm.fanOn ∧
    (forceNoEdge src s).exm.runOn = s.exm.runOn ∧ (forceNoEdge src s).exm.state = s.exm.state ∧
    (forceNoEdge src s).exm.suppression = s.exm.suppression ∧ (forceNoEdge src s).exm.airflowLow = s.exm.airflowLow
    ∧ (forceNoEdge src s).exm.airflowLost = s.exm.airflowLost ∧
    (forceNoEdge src s).exm.filterLoaded = s.exm.filterLoaded ∧
    (forceNoEdge src s).exm.filterClogged = s.exm.filterClogged ∧ (forceNoEdge src s).exm.fanStall = s.exm.fanStall
    ∧ (forceNoEdge src s).exm.linkDuct = s.exm.linkDuct ∧ (forceNoEdge src s).exm.linkFilter = s.exm.linkFilter ∧
    (forceNoEdge src s).exm.sensorLink = s.exm.sensorLink ∧ (forceNoEdge src s).exm.grace = s.exm.grace ∧
    (forceNoEdge src s).exm.ductDp = s.exm.ductDp ∧ (forceNoEdge src s).exm.filterDp = s.exm.filterDp ∧
    (forceNoEdge src s).pending = s.pending := by
  unfold forceNoEdge; (try dsimp only) <;> (repeat' split) <;> simp

@[simp] theorem forceOver_keeps (src : Source) (s : State) :
    SameHpx s (forceOver src s) ∧ (forceOver src s).dkc = s.dkc ∧ (forceOver src s).cvt = s.cvt ∧
    SameAmc s (forceOver src s) ∧ (forceOver src s).tlk = s.tlk ∧ (forceOver src s).flk = s.flk ∧
    SameFluxInputs s (forceOver src s) ∧ (forceOver src s).phc.zones = s.phc.zones ∧
    (forceOver src s).phc.periodStart = s.phc.periodStart ∧ (forceOver src s).phc.nextPeriod = s.phc.nextPeriod ∧
    (forceOver src s).ptc.pot = s.ptc.pot ∧ (forceOver src s).ptc.potPeriodStart = s.ptc.potPeriodStart ∧
    (forceOver src s).ptc.nextPotPeriod = s.ptc.nextPotPeriod ∧ (forceOver src s).ptc.nextRamp = s.ptc.nextRamp ∧
    (forceOver src s).ptc.nextEcho = s.ptc.nextEcho ∧ (forceOver src s).exm.fanOn = s.exm.fanOn ∧
    (forceOver src s).exm.runOn = s.exm.runOn ∧ (forceOver src s).exm.state = s.exm.state ∧
    (forceOver src s).exm.suppression = s.exm.suppression ∧ (forceOver src s).exm.airflowLow = s.exm.airflowLow ∧
    (forceOver src s).exm.airflowLost = s.exm.airflowLost ∧ (forceOver src s).exm.filterLoaded = s.exm.filterLoaded
    ∧ (forceOver src s).exm.filterClogged = s.exm.filterClogged ∧ (forceOver src s).exm.fanStall = s.exm.fanStall ∧
    (forceOver src s).exm.linkDuct = s.exm.linkDuct ∧ (forceOver src s).exm.linkFilter = s.exm.linkFilter ∧
    (forceOver src s).exm.sensorLink = s.exm.sensorLink ∧ (forceOver src s).exm.grace = s.exm.grace ∧
    (forceOver src s).exm.ductDp = s.exm.ductDp ∧ (forceOver src s).exm.filterDp = s.exm.filterDp ∧
    (forceOver src s).pending = s.pending := by
  unfold forceOver; (try dsimp only) <;> (repeat' split) <;> simp

@[simp] theorem sampleSwitches_keeps (i : TickInputs) (s : State) :
    (sampleSwitches i s).hpx = s.hpx ∧ (sampleSwitches i s).dkc = s.dkc ∧ (sampleSwitches i s).cvt = s.cvt ∧
    (sampleSwitches i s).amc.ticks = s.amc.ticks ∧ (sampleSwitches i s).amc.mode = s.amc.mode ∧
    (sampleSwitches i s).amc.activeProfile = s.amc.activeProfile ∧ (sampleSwitches i s).amc.inForce = s.amc.inForce
    ∧ (sampleSwitches i s).amc.profile = s.amc.profile ∧ (sampleSwitches i s).amc.alarms = s.amc.alarms ∧
    (sampleSwitches i s).amc.chainOpen = s.amc.chainOpen ∧ (sampleSwitches i s).amc.finish = s.amc.finish ∧
    (sampleSwitches i s).amc.changeover = s.amc.changeover ∧ (sampleSwitches i s).cta = s.cta ∧
    (sampleSwitches i s).tlk = s.tlk ∧ (sampleSwitches i s).flk = s.flk ∧
    (sampleSwitches i s).fxc.period = s.fxc.period ∧ (sampleSwitches i s).fxc.active = s.fxc.active ∧
    (sampleSwitches i s).fxc.buffered = s.fxc.buffered ∧ (sampleSwitches i s).fxc.valves = s.fxc.valves ∧
    (sampleSwitches i s).fxc.closedPart = s.fxc.closedPart ∧ (sampleSwitches i s).fxc.board = s.fxc.board ∧
    (sampleSwitches i s).fxc.purge = s.fxc.purge ∧ (sampleSwitches i s).fxc.pressureOk = s.fxc.pressureOk ∧
    (sampleSwitches i s).fxc.tankHigh = s.fxc.tankHigh ∧ (sampleSwitches i s).phc = s.phc ∧
    (sampleSwitches i s).ptc = s.ptc ∧ (sampleSwitches i s).exm = s.exm ∧ (sampleSwitches i s).xm = s.xm ∧
    (sampleSwitches i s).free = s.free ∧ (sampleSwitches i s).pending = s.pending := by
  unfold sampleSwitches; (try dsimp only) <;> (repeat' split) <;> simp

@[simp] theorem accrueValves_keeps (i : TickInputs) (s : State) :
    OnlyFxc s (accrueValves i s) ∧ SameFluxInputs s (accrueValves i s) ∧
    (accrueValves i s).fxc.active = s.fxc.active ∧ (accrueValves i s).fxc.buffered = s.fxc.buffered ∧
    (accrueValves i s).fxc.valves = s.fxc.valves := by
  unfold accrueValves; (try dsimp only) <;> (repeat' split) <;> simp

@[simp] theorem countFeed_keeps (s : State) :
    OnlyPtc s (countFeed s) ∧ SamePtcButPumps s (countFeed s) ∧ (countFeed s).ptc.pot = s.ptc.pot ∧
    (countFeed s).ptc.chip = s.ptc.chip ∧ (countFeed s).ptc.main = s.ptc.main ∧
    (countFeed s).ptc.mainLeftRamping = s.ptc.mainLeftRamping ∧ (countFeed s).ptc.feeder = s.ptc.feeder ∧
    (countFeed s).ptc.calibrate = s.ptc.calibrate ∧ (countFeed s).ptc.feed = s.ptc.feed := by
  unfold countFeed; (try dsimp only) <;> (repeat' split) <;> simp

@[simp] theorem advanceClock_keeps (s : State) :
    (advanceClock s).hpx = s.hpx ∧ (advanceClock s).dkc = s.dkc ∧ (advanceClock s).cvt = s.cvt ∧
    (advanceClock s).amc.mode = s.amc.mode ∧ (advanceClock s).amc.activeProfile = s.amc.activeProfile ∧
    (advanceClock s).amc.inForce = s.amc.inForce ∧ (advanceClock s).amc.profile = s.amc.profile ∧
    (advanceClock s).amc.alarms = s.amc.alarms ∧ (advanceClock s).amc.chainOpen = s.amc.chainOpen ∧
    (advanceClock s).amc.chainCount = s.amc.chainCount ∧ (advanceClock s).amc.finish = s.amc.finish ∧
    (advanceClock s).amc.changeover = s.amc.changeover ∧ (advanceClock s).cta = s.cta ∧ (advanceClock s).tlk = s.tlk
    ∧ (advanceClock s).flk = s.flk ∧ (advanceClock s).fxc = s.fxc ∧ (advanceClock s).phc = s.phc ∧
    (advanceClock s).ptc = s.ptc ∧ (advanceClock s).exm = s.exm ∧ (advanceClock s).xm = s.xm ∧
    (advanceClock s).free = s.free ∧ (advanceClock s).pending = s.pending := by
  unfold advanceClock; (try dsimp only) <;> (repeat' split) <;> simp

@[simp] theorem tickWhole_keeps (i : TickInputs) (s : State) :
    (tickWhole i s).hpx = s.hpx ∧ (tickWhole i s).dkc = s.dkc ∧ (tickWhole i s).cvt = s.cvt ∧
    (tickWhole i s).amc.mode = s.amc.mode ∧ (tickWhole i s).amc.activeProfile = s.amc.activeProfile ∧
    (tickWhole i s).amc.inForce = s.amc.inForce ∧ (tickWhole i s).amc.profile = s.amc.profile ∧
    (tickWhole i s).amc.alarms = s.amc.alarms ∧ (tickWhole i s).amc.chainOpen = s.amc.chainOpen ∧
    (tickWhole i s).amc.finish = s.amc.finish ∧ (tickWhole i s).amc.changeover = s.amc.changeover ∧
    (tickWhole i s).cta = s.cta ∧ (tickWhole i s).tlk = s.tlk ∧ (tickWhole i s).flk = s.flk ∧
    (tickWhole i s).fxc.period = s.fxc.period ∧ (tickWhole i s).fxc.active = s.fxc.active ∧
    (tickWhole i s).fxc.buffered = s.fxc.buffered ∧ (tickWhole i s).fxc.valves = s.fxc.valves ∧
    (tickWhole i s).fxc.pressureOk = s.fxc.pressureOk ∧ (tickWhole i s).fxc.tankHigh = s.fxc.tankHigh ∧
    (tickWhole i s).phc = s.phc ∧ SamePtcButPumps s (tickWhole i s) ∧ (tickWhole i s).ptc.pot = s.ptc.pot ∧
    (tickWhole i s).ptc.chip = s.ptc.chip ∧ (tickWhole i s).ptc.main = s.ptc.main ∧
    (tickWhole i s).ptc.mainLeftRamping = s.ptc.mainLeftRamping ∧ (tickWhole i s).ptc.feeder = s.ptc.feeder ∧
    (tickWhole i s).ptc.calibrate = s.ptc.calibrate ∧ (tickWhole i s).ptc.feed = s.ptc.feed ∧
    (tickWhole i s).exm = s.exm ∧ (tickWhole i s).xm = s.xm ∧ (tickWhole i s).free = s.free ∧
    (tickWhole i s).pending = s.pending := by
  unfold tickWhole; (try dsimp only) <;> (repeat' split) <;> simp

end Sys2Proof.Machine
end

