-- ==== Sys2Proof/Laws/Memory.lean ====
section
/-! SUPPORT. Exchange memory: reading after writing, and the canonical form kept by every operation over it. -/

namespace Sys2Proof.Machine

/-! ### The list of bytes -/

theorem cellsGet_cellsErase (l : List Host.Cell) (x y : Nat) :
    cellsGet (cellsErase l x) y = if y = x then 0 else cellsGet l y := by
  induction l with
  | nil => simp [cellsErase, cellsGet]
  | cons c l ih =>
    obtain ⟨a, v⟩ := c
    by_cases hxa : x = a
    · subst hxa; simp only [cellsErase, cellsGet, if_true, ih]; split <;> simp_all
    · simp only [cellsErase, cellsGet, hxa, if_false, ih]
      split <;> split <;> simp_all

theorem cellsGet_cellsInsert (l : List Host.Cell) (x y : Nat) (w : Byte) :
    cellsGet (cellsInsert (cellsErase l x) x w) y = if y = x then w else cellsGet l y := by
  induction l with
  | nil => simp [cellsErase, cellsInsert, cellsGet]
  | cons c l ih =>
    obtain ⟨a, v⟩ := c
    by_cases hxa : x = a
    · subst hxa; simp only [cellsErase, cellsGet, if_true, ih]; split <;> simp_all
    · simp only [cellsErase, hxa, if_false, cellsInsert, cellsGet]
      split
      · simp only [cellsGet, cellsGet_cellsErase]; grind
      · simp only [cellsGet, ih]; grind

/-- A byte read after one was written. -/
theorem cellsGet_cellsSet (l : List Host.Cell) (x y : Nat) (w : Byte) :
    cellsGet (cellsSet l x w) y = if y = x then w else cellsGet l y := by
  unfold cellsSet
  split
  · simp_all [cellsGet_cellsErase]
  · exact cellsGet_cellsInsert l x y w

/-! ### The list of addresses -/

theorem mem_addrsErase (l : List Nat) (x y : Nat) : y ∈ addrsErase l x ↔ y ≠ x ∧ y ∈ l := by
  induction l with
  | nil => simp [addrsErase]
  | cons a l ih =>
    unfold addrsErase
    split <;> simp_all <;> grind

theorem mem_addrsInsert (l : List Nat) (x y : Nat) : y ∈ addrsInsert l x ↔ y = x ∨ y ∈ l := by
  induction l with
  | nil => simp [addrsInsert]
  | cons a l ih => unfold addrsInsert; split <;> simp_all; grind

/-! ### One byte stored -/

/-- The stored byte after a store. -/
theorem Xm.byte_setByte (m : Xm) (a b : Nat) (v : Byte) (p : Bool) :
    (m.setByte a v p).byte b = if b = a ∧ Xm.stores a = true then v else m.byte b := by
  unfold Xm.setByte Xm.byte
  split <;> simp_all [cellsGet_cellsSet]

/-- The parity after a store. -/
theorem Xm.isBad_setByte (m : Xm) (a b : Nat) (v : Byte) (p : Bool) :
    (m.setByte a v p).isBad b = if b = a ∧ Xm.stores a = true then p else m.isBad b := by
  unfold Xm.setByte Xm.isBad
  split
  · rename_i h
    by_cases hb : b = a
    · subst hb
      cases p <;> simp [h, mem_addrsErase, mem_addrsInsert]
    · cases p <;> simp [hb, mem_addrsErase, mem_addrsInsert]
  · simp_all

/-! ### The canonical form -/

theorem cellsWf_mono (l : List Host.Cell) (lo lo' : Nat) (h : lo' ≤ lo) (w : cellsWf lo l = true) :
    cellsWf lo' l = true := by
  cases l with
  | nil => rfl
  | cons c l => simp only [cellsWf, Bool.and_eq_true, decide_eq_true_eq] at *; grind

theorem cellsWf_erase (l : List Host.Cell) (x lo : Nat) (w : cellsWf lo l = true) : cellsWf lo (cellsErase l x) = true := by
  induction l generalizing lo with
  | nil => rfl
  | cons c l ih =>
    obtain ⟨a, v⟩ := c
    simp [cellsWf] at w
    unfold cellsErase
    split
    · exact ih lo (cellsWf_mono l _ _ (by omega) w.2)
    · simp [cellsWf, w, ih _ w.2]

theorem cellsWf_insert (l : List Host.Cell) (x lo : Nat) (v : Byte) (w : cellsWf lo l = true) (hlo : lo ≤ x)
    (hs : Xm.stores x = true) (hv : v ≠ 0) (hx : ∀ u, (x, u) ∉ l) : cellsWf lo (cellsInsert l x v) = true := by
  induction l generalizing lo with
  | nil => simpa [cellsInsert, cellsWf, hlo, hs] using hv
  | cons c l ih =>
    obtain ⟨a, u⟩ := c
    simp [cellsWf] at w
    have hxa : x ≠ a := fun h => hx u (by simp [h])
    unfold cellsInsert
    split
    · simp only [cellsWf, Bool.and_eq_true, decide_eq_true_eq, bne_iff_ne] at *; grind
    · simp only [cellsWf, Bool.and_eq_true, decide_eq_true_eq]
      refine ⟨⟨⟨w.1.1.1, w.1.1.2⟩, by simpa using w.1.2⟩, ih _ w.2 (by omega) ?_⟩
      exact fun u' h => hx u' (List.mem_cons_of_mem _ h)

theorem not_mem_cellsErase (l : List Host.Cell) (x : Nat) (u : Byte) : (x, u) ∉ cellsErase l x := by
  induction l with
  | nil => simp [cellsErase]
  | cons c l ih => obtain ⟨a, v⟩ := c; unfold cellsErase; split <;> simp_all

theorem cellsWf_set (l : List Host.Cell) (x lo : Nat) (v : Byte) (w : cellsWf lo l = true) (hlo : lo ≤ x)
    (hs : Xm.stores x = true) : cellsWf lo (cellsSet l x v) = true := by
  unfold cellsSet
  split
  · exact cellsWf_erase l x lo w
  · exact cellsWf_insert _ _ _ _ (cellsWf_erase l x lo w) hlo hs (by assumption) (fun u => not_mem_cellsErase l x u)

theorem addrsWf_mono (l : List Nat) (lo lo' : Nat) (h : lo' ≤ lo) (w : addrsWf lo l = true) : addrsWf lo' l = true := by
  cases l with
  | nil => rfl
  | cons c l => simp only [addrsWf, Bool.and_eq_true, decide_eq_true_eq] at *; grind

theorem addrsWf_erase (l : List Nat) (x lo : Nat) (w : addrsWf lo l = true) : addrsWf lo (addrsErase l x) = true := by
  induction l generalizing lo with
  | nil => rfl
  | cons a l ih =>
    simp [addrsWf] at w
    unfold addrsErase
    split
    · exact ih lo (addrsWf_mono l _ _ (by omega) w.2)
    · simp [addrsWf, w, ih _ w.2]

theorem addrsWf_insert (l : List Nat) (x lo : Nat) (w : addrsWf lo l = true) (hlo : lo ≤ x) (hs : Xm.stores x = true)
    (hx : x ∉ l) : addrsWf lo (addrsInsert l x) = true := by
  induction l generalizing lo with
  | nil => simp [addrsInsert, addrsWf, hlo, hs]
  | cons a l ih =>
    simp [addrsWf] at w
    have hxa : x ≠ a := fun h => hx (by simp [h])
    unfold addrsInsert
    split
    · simp only [addrsWf, Bool.and_eq_true, decide_eq_true_eq] at *; grind
    · simp only [addrsWf, Bool.and_eq_true, decide_eq_true_eq]
      exact ⟨⟨w.1.1, w.1.2⟩, ih _ w.2 (by omega) (fun h => hx (List.mem_cons_of_mem _ h))⟩

/-- Storing a byte keeps the canonical form. -/
theorem Memory.wf_setByte (m : Xm) (a : Nat) (v : Byte) (p : Bool) (w : Memory.wf m = true) :
    Memory.wf (m.setByte a v p) = true := by
  unfold Memory.wf at *
  rw [Bool.and_eq_true] at w ⊢
  unfold Xm.setByte
  split
  · rename_i hs
    refine ⟨cellsWf_set _ _ _ _ w.1 (Nat.zero_le _) hs, ?_⟩
    dsimp only
    split
    · exact addrsWf_insert _ _ _ (addrsWf_erase _ _ _ w.2) (Nat.zero_le _) hs (by simp [mem_addrsErase])
    · exact addrsWf_erase _ _ _ w.2
  · exact w

theorem Memory.wf_cleared : Memory.wf Xm.cleared = true := rfl

end Sys2Proof.Machine
end

