-- ==== Sys2Proof/Laws/MemoryKept.lean ====
section
/-! SUPPORT. Every operation over the exchange memory, and every act of a block that stores into it, keeps the
canonical form `Memory.wf`.  One lemma per definition, each from the lemmas of what it calls. -/

namespace Sys2Proof.Machine

@[simp] theorem putByte_wf (a : Nat) (v : Byte) (s : State) (h : Memory.wf s.xm = true) : Memory.wf (putByte a v s).xm = true := Memory.wf_setByte s.xm a v false h
@[simp] theorem fillBytes_wf (a : Nat) (v : Byte) (n : Nat) (s : State) (h : Memory.wf s.xm = true) : Memory.wf (fillBytes a v n s).xm = true := by
  induction n generalizing a s with
  | zero => simpa [fillBytes] using h
  | succ n ih => exact ih (a + 1) _ (putByte_wf a v s h)
@[simp] theorem forEach_wf {α : Type} (l : List α) (f : α → State → State) (s : State) (hf : ∀ a t, Memory.wf t.xm = true → Memory.wf (f a t).xm = true)
    (h : Memory.wf s.xm = true) : Memory.wf (forEach l f s).xm = true := forEach_induct (fun s => Memory.wf s.xm = true) l f hf s h
@[simp] theorem whileOnLine_wf (d : DocketNo) (f : State → State) (s : State) (hf : ∀ t, Memory.wf t.xm = true → Memory.wf (f t).xm = true)
    (h : Memory.wf s.xm = true) : Memory.wf (whileOnLine d f s).xm = true := by unfold whileOnLine; split <;> simp [*]
@[simp] theorem ruleRequest_wf (c : CellNo) (r : Request) (f : State → State) (s : State) (hf : ∀ t, Memory.wf t.xm = true → Memory.wf (f t).xm = true)
    (h : Memory.wf s.xm = true) : Memory.wf (ruleRequest c r f s).xm = true := by unfold ruleRequest; split <;> simp [*]
@[simp] theorem setByte_wf (m : Xm) (a : Nat) (v : Byte) (p : Bool) (h : Memory.wf m = true) : Memory.wf (m.setByte a v p) = true := Memory.wf_setByte m a v p h
@[simp] theorem searchId_wf (id : List Byte) (l : List DocketNo) (w : Option DocketNo) (s : State)
   (hr : ∀ d a t, Memory.wf t.xm = true → Memory.wf (refuseInSearch d a t).xm = true) (h : Memory.wf s.xm = true) : Memory.wf (searchId id l w s).2.xm = true := by
  induction l generalizing w s with
  | nil => simpa [searchId] using h
  | cons d l ih => unfold searchId; (repeat' split) <;> simp [ih, hr, h]
@[simp] theorem runAll_wf (l : List (State → State)) (s : State) (hf : ∀ f ∈ l, ∀ t, Memory.wf t.xm = true → Memory.wf (f t).xm = true)
    (h : Memory.wf s.xm = true) : Memory.wf (runAll l s).xm = true := by
  induction l generalizing s with
  | nil => exact h
  | cons a l ih => exact ih (a s) (fun f hm => hf f (List.mem_cons_of_mem _ hm)) (hf a (List.mem_cons_self ..) s h)
@[simp] theorem cleared_wf : Memory.wf Xm.cleared = true := rfl

@[simp] theorem putHalf_wf (a : Nat) (v : Half) (s : State) (h : Memory.wf s.xm = true) : Memory.wf (putHalf a v s).xm = true := by
  unfold putHalf; (try dsimp only) <;> (repeat' split) <;> simp +contextual (maxDischargeDepth := 20) [h]

@[simp] theorem putWord_wf (a : Nat) (v : Word) (s : State) (h : Memory.wf s.xm = true) : Memory.wf (putWord a v s).xm = true := by
  unfold putWord; (try dsimp only) <;> (repeat' split) <;> simp +contextual (maxDischargeDepth := 20) [h]

@[simp] theorem putReply_wf (c : CellNo) (j : Nat) (v : Half) (s : State) (h : Memory.wf s.xm = true) : Memory.wf (putReply c j v s).xm = true := by
  unfold putReply; (try dsimp only) <;> (repeat' split) <;> simp +contextual (maxDischargeDepth := 20) [h]

@[simp] theorem putReplyWord_wf (c : CellNo) (j : Nat) (v : Word) (s : State) (h : Memory.wf s.xm = true) : Memory.wf (putReplyWord c j v s).xm = true := by
  unfold putReplyWord; (try dsimp only) <;> (repeat' split) <;> simp +contextual (maxDischargeDepth := 20) [h]

@[simp] theorem endCell_wf (c : CellNo) (r : RequestResult) (s : State) (h : Memory.wf s.xm = true) : Memory.wf (endCell c r s).xm = true := by
  unfold endCell; (try dsimp only) <;> (repeat' split) <;> simp +contextual (maxDischargeDepth := 20) [h]

@[simp] theorem pinUp_wf (r : RecipeNo) (s : State) (h : Memory.wf s.xm = true) : Memory.wf (pinUp r s).xm = true := by
  unfold pinUp; (try dsimp only) <;> (repeat' split) <;> simp +contextual (maxDischargeDepth := 20) [h]

@[simp] theorem pinDown_wf (r : RecipeNo) (s : State) (h : Memory.wf s.xm = true) : Memory.wf (pinDown r s).xm = true := by
  unfold pinDown; (try dsimp only) <;> (repeat' split) <;> simp +contextual (maxDischargeDepth := 20) [h]

@[simp] theorem putReason_wf (d : DocketNo) (r : Reason) (s : State) (h : Memory.wf s.xm = true) : Memory.wf (putReason d r s).xm = true := by
  unfold putReason; (try dsimp only) <;> (repeat' split) <;> simp +contextual (maxDischargeDepth := 20) [h]

@[simp] theorem addReason_wf (d : DocketNo) (r : Reason) (s : State) (h : Memory.wf s.xm = true) : Memory.wf (addReason d r s).xm = true := by
  unfold addReason; (try dsimp only) <;> (repeat' split) <;> simp +contextual (maxDischargeDepth := 20) [h]

@[simp] theorem putNote_wf (d : DocketNo) (bit : Byte) (s : State) (h : Memory.wf s.xm = true) : Memory.wf (putNote d bit s).xm = true := by
  unfold putNote; (try dsimp only) <;> (repeat' split) <;> simp +contextual (maxDischargeDepth := 20) [h]

@[simp] theorem putField_wf (d : DocketNo) (off : Nat) (v : Half) (s : State) (h : Memory.wf s.xm = true) : Memory.wf (putField d off v s).xm = true := by
  unfold putField; (try dsimp only) <;> (repeat' split) <;> simp +contextual (maxDischargeDepth := 20) [h]

@[simp] theorem putFieldWord_wf (d : DocketNo) (off : Nat) (v : Word) (s : State) (h : Memory.wf s.xm = true) : Memory.wf (putFieldWord d off v s).xm = true := by
  unfold putFieldWord; (try dsimp only) <;> (repeat' split) <;> simp +contextual (maxDischargeDepth := 20) [h]

@[simp] theorem putStage_wf (d : DocketNo) (stage : Byte) (s : State) (h : Memory.wf s.xm = true) : Memory.wf (putStage d stage s).xm = true := by
  unfold putStage; (try dsimp only) <;> (repeat' split) <;> simp +contextual (maxDischargeDepth := 20) [h]

@[simp] theorem reportBad_wf (addrs : List Nat) (d : DocketNo) (s : State) (h : Memory.wf s.xm = true) : Memory.wf (reportBad addrs d s).xm = true := by
  unfold reportBad; (try dsimp only) <;> (repeat' split) <;> simp +contextual (maxDischargeDepth := 20) [h]

@[simp] theorem measureResult_wf (c : Claim) (status : ResultStatus) (value : Option Nat) (s : State) (h : Memory.wf s.xm = true) : Memory.wf (measureResult c status value s).xm = true := by
  unfold measureResult; (try dsimp only) <;> (repeat' split) <;> simp +contextual (maxDischargeDepth := 20) [h]

@[simp] theorem toDiag_wf (c : Claim) (status : ResultStatus) (value : Option Nat) (s : State) (h : Memory.wf s.xm = true) : Memory.wf (toDiag c status value s).xm = true := by
  unfold toDiag; (try dsimp only) <;> (repeat' split) <;> simp +contextual (maxDischargeDepth := 20) [h]

@[simp] theorem displaceDiag_wf (old : Claim) (c : Claim) (s : State) (h : Memory.wf s.xm = true) : Memory.wf (displaceDiag old c s).xm = true := by
  unfold displaceDiag; (try dsimp only) <;> (repeat' split) <;> simp +contextual (maxDischargeDepth := 20) [h]

@[simp] theorem placeBlock_wf (src : Source) (m : CountMode) (who : Claimant) (s : State) (h : Memory.wf s.xm = true) : Memory.wf (placeBlock src m who s).xm = true := by
  unfold placeBlock; (try dsimp only) <;> (repeat' split) <;> simp +contextual (maxDischargeDepth := 20) [h]

@[simp] theorem reclaim_wf (c : Claim) (s : State) (h : Memory.wf s.xm = true) : Memory.wf (reclaim c s).xm = true := by
  unfold reclaim; (try dsimp only) <;> (repeat' split) <;> simp +contextual (maxDischargeDepth := 20) [h]

@[simp] theorem preempt_wf (u : UnitNo) (c : Claim) (s : State) (h : Memory.wf s.xm = true) : Memory.wf (preempt u c s).xm = true := by
  unfold preempt; (try dsimp only) <;> (repeat' split) <;> simp +contextual (maxDischargeDepth := 20) [h]

@[simp] theorem placeFlowNew_wf (c : Claim) (s : State) (h : Memory.wf s.xm = true) : Memory.wf (placeFlowNew c s).xm = true := by
  unfold placeFlowNew; (try dsimp only) <;> (repeat' split) <;> simp +contextual (maxDischargeDepth := 20) [h]

@[simp] theorem placeFlow_wf  (s : State) (h : Memory.wf s.xm = true) : Memory.wf (placeFlow s).xm = true := by
  unfold placeFlow; (try dsimp only) <;> (repeat' split) <;> simp +contextual (maxDischargeDepth := 20) [h]

@[simp] theorem placeDiag_wf (src : Source) (m : CountMode) (s : State) (h : Memory.wf s.xm = true) : Memory.wf (placeDiag src m s).xm = true := by
  unfold placeDiag; (try dsimp only) <;> (repeat' split) <;> simp +contextual (maxDischargeDepth := 20) [h]

@[simp] theorem endOpen_wf (u : UnitNo) (c : CountUnit) (s : State) (h : Memory.wf s.xm = true) : Memory.wf (endOpen u c s).xm = true := by
  unfold endOpen; (try dsimp only) <;> (repeat' split) <;> simp +contextual (maxDischargeDepth := 20) [h]

@[simp] theorem closeFlow_wf  (s : State) (h : Memory.wf s.xm = true) : Memory.wf (closeFlow s).xm = true := by
  unfold closeFlow; (try dsimp only) <;> (repeat' split) <;> simp +contextual (maxDischargeDepth := 20) [h]

@[simp] theorem withdraw_wf (src : Source) (who : Claimant) (s : State) (h : Memory.wf s.xm = true) : Memory.wf (withdraw src who s).xm = true := by
  unfold withdraw; (try dsimp only) <;> (repeat' split) <;> simp +contextual (maxDischargeDepth := 20) [h]

@[simp] theorem takeFlow_wf (stored : Option FlowResult) (s : State) (h : Memory.wf s.xm = true) : Memory.wf (takeFlow stored s).xm = true := by
  unfold takeFlow; (try dsimp only) <;> (repeat' split) <;> simp +contextual (maxDischargeDepth := 20) [h]

@[simp] theorem writeDose_wf (d : DocketNo) (time : Nat) (dose : Option Nat) (s : State) (h : Memory.wf s.xm = true) : Memory.wf (writeDose d time dose s).xm = true := by
  unfold writeDose; (try dsimp only) <;> (repeat' split) <;> simp +contextual (maxDischargeDepth := 20) [h]

@[simp] theorem judgeNoFlow_wf (d : Option DocketNo) (time : Nat) (r : Option FlowResult) (s : State) (h : Memory.wf s.xm = true) : Memory.wf (judgeNoFlow d time r s).xm = true := by
  unfold judgeNoFlow; (try dsimp only) <;> (repeat' split) <;> simp +contextual (maxDischargeDepth := 20) [h]

@[simp] theorem checkDose_wf (d : DocketNo) (dose : Option Nat) (s : State) (h : Memory.wf s.xm = true) : Memory.wf (checkDose d dose s).xm = true := by
  unfold checkDose; (try dsimp only) <;> (repeat' split) <;> simp +contextual (maxDischargeDepth := 20) [h]

@[simp] theorem interruptBoard_wf  (s : State) (h : Memory.wf s.xm = true) : Memory.wf (interruptBoard s).xm = true := by
  unfold interruptBoard; (try dsimp only) <;> (repeat' split) <;> simp +contextual (maxDischargeDepth := 20) [h]

@[simp] theorem endPurgeWait_wf (p : Purge) (result : RequestResult) (s : State) (h : Memory.wf s.xm = true) : Memory.wf (endPurgeWait p result s).xm = true := by
  unfold endPurgeWait; (try dsimp only) <;> (repeat' split) <;> simp +contextual (maxDischargeDepth := 20) [h]

@[simp] theorem purgeReplies_wf (p : Purge) (r : Option FlowResult) (ms : Nat) (s : State) (h : Memory.wf s.xm = true) : Memory.wf (purgeReplies p r ms s).xm = true := by
  unfold purgeReplies; (try dsimp only) <;> (repeat' split) <;> simp +contextual (maxDischargeDepth := 20) [h]

@[simp] theorem endPurgeSpray_wf (p : Purge) (result : RequestResult) (ms : Nat) (s : State) (h : Memory.wf s.xm = true) : Memory.wf (endPurgeSpray p result ms s).xm = true := by
  unfold endPurgeSpray; (try dsimp only) <;> (repeat' split) <;> simp +contextual (maxDischargeDepth := 20) [h]

@[simp] theorem purgeLoss_wf  (s : State) (h : Memory.wf s.xm = true) : Memory.wf (purgeLoss s).xm = true := by
  unfold purgeLoss; (try dsimp only) <;> (repeat' split) <;> simp +contextual (maxDischargeDepth := 20) [h]

@[simp] theorem fluxLoss_wf  (s : State) (h : Memory.wf s.xm = true) : Memory.wf (fluxLoss s).xm = true := by
  unfold fluxLoss; (try dsimp only) <;> (repeat' split) <;> simp +contextual (maxDischargeDepth := 20) [h]

@[simp] theorem raiseLow_wf (a : Alarm) (detail : Half) (docket : Option DocketNo) (s : State) (h : Memory.wf s.xm = true) : Memory.wf (raiseLow a detail docket s).xm = true := by
  unfold raiseLow; (try dsimp only) <;> (repeat' split) <;> simp +contextual (maxDischargeDepth := 20) [h]

@[simp] theorem pulseLow_wf (a : Alarm) (detail : Half) (docket : Option DocketNo) (s : State) (h : Memory.wf s.xm = true) : Memory.wf (pulseLow a detail docket s).xm = true := by
  unfold pulseLow; (try dsimp only) <;> (repeat' split) <;> simp +contextual (maxDischargeDepth := 20) [h]

@[simp] theorem judgeLow_wf (a : Alarm) (holds : Bool) (detail : Half) (s : State) (h : Memory.wf s.xm = true) : Memory.wf (judgeLow a holds detail s).xm = true := by
  unfold judgeLow; (try dsimp only) <;> (repeat' split) <;> simp +contextual (maxDischargeDepth := 20) [h]

@[simp] theorem judgePressure_wf  (s : State) (h : Memory.wf s.xm = true) : Memory.wf (judgePressure s).xm = true := by
  unfold judgePressure; (try dsimp only) <;> (repeat' split) <;> simp +contextual (maxDischargeDepth := 20) [h]

@[simp] theorem judgeTank_wf  (s : State) (h : Memory.wf s.xm = true) : Memory.wf (judgeTank s).xm = true := by
  unfold judgeTank; (try dsimp only) <;> (repeat' split) <;> simp +contextual (maxDischargeDepth := 20) [h]

@[simp] theorem fluxBegin_wf (board : Word) (d : DocketNo) (s : State) (h : Memory.wf s.xm = true) : Memory.wf (fluxBegin board d s).xm = true := by
  unfold fluxBegin; (try dsimp only) <;> (repeat' split) <;> simp +contextual (maxDischargeDepth := 20) [h]

@[simp] theorem fluxIn_wf (board : Word) (docket : Option DocketNo) (s : State) (h : Memory.wf s.xm = true) : Memory.wf (fluxIn board docket s).xm = true := by
  unfold fluxIn; (try dsimp only) <;> (repeat' split) <;> simp +contextual (maxDischargeDepth := 20) [h]

@[simp] theorem fluxDiscard_wf  (s : State) (h : Memory.wf s.xm = true) : Memory.wf (fluxDiscard s).xm = true := by
  unfold fluxDiscard; (try dsimp only) <;> (repeat' split) <;> simp +contextual (maxDischargeDepth := 20) [h]

@[simp] theorem sprayStart_wf  (s : State) (h : Memory.wf s.xm = true) : Memory.wf (sprayStart s).xm = true := by
  unfold sprayStart; (try dsimp only) <;> (repeat' split) <;> simp +contextual (maxDischargeDepth := 20) [h]

@[simp] theorem fluxOutOf_wf (b : FluxBoard) (s : State) (h : Memory.wf s.xm = true) : Memory.wf (fluxOutOf b s).xm = true := by
  unfold fluxOutOf; (try dsimp only) <;> (repeat' split) <;> simp +contextual (maxDischargeDepth := 20) [h]

@[simp] theorem fluxOut_wf (board : Word) (s : State) (h : Memory.wf s.xm = true) : Memory.wf (fluxOut board s).xm = true := by
  unfold fluxOut; (try dsimp only) <;> (repeat' split) <;> simp +contextual (maxDischargeDepth := 20) [h]

@[simp] theorem sprayExpiry_wf  (s : State) (h : Memory.wf s.xm = true) : Memory.wf (sprayExpiry s).xm = true := by
  unfold sprayExpiry; (try dsimp only) <;> (repeat' split) <;> simp +contextual (maxDischargeDepth := 20) [h]

@[simp] theorem downstreamExpiry_wf  (s : State) (h : Memory.wf s.xm = true) : Memory.wf (downstreamExpiry s).xm = true := by
  unfold downstreamExpiry; (try dsimp only) <;> (repeat' split) <;> simp +contextual (maxDischargeDepth := 20) [h]

@[simp] theorem markZone_wf (d : Option DocketNo) (s : State) (h : Memory.wf s.xm = true) : Memory.wf (markZone d s).xm = true := by
  unfold markZone; (try dsimp only) <;> (repeat' split) <;> simp +contextual (maxDischargeDepth := 20) [h]

@[simp] theorem enterZone_wf (z : ZoneNo) (st : ZoneState) (s : State) (h : Memory.wf s.xm = true) : Memory.wf (enterZone z st s).xm = true := by
  unfold enterZone; (try dsimp only) <;> (repeat' split) <;> simp +contextual (maxDischargeDepth := 20) [h]

@[simp] theorem judgeDeviation_wf  (s : State) (h : Memory.wf s.xm = true) : Memory.wf (judgeDeviation s).xm = true := by
  unfold judgeDeviation; (try dsimp only) <;> (repeat' split) <;> simp +contextual (maxDischargeDepth := 20) [h]

@[simp] theorem judgeZoneSensor_wf  (s : State) (h : Memory.wf s.xm = true) : Memory.wf (judgeZoneSensor s).xm = true := by
  unfold judgeZoneSensor; (try dsimp only) <;> (repeat' split) <;> simp +contextual (maxDischargeDepth := 20) [h]

@[simp] theorem judgeZones_wf  (s : State) (h : Memory.wf s.xm = true) : Memory.wf (judgeZones s).xm = true := by
  unfold judgeZones; (try dsimp only) <;> (repeat' split) <;> simp +contextual (maxDischargeDepth := 20) [h]

@[simp] theorem zonesOnMode_wf (old : Mode) (s : State) (h : Memory.wf s.xm = true) : Memory.wf (zonesOnMode old s).xm = true := by
  unfold zonesOnMode; (try dsimp only) <;> (repeat' split) <;> simp +contextual (maxDischargeDepth := 20) [h]

@[simp] theorem zoneOnSwitch_wf (z : ZoneNo) (s : State) (h : Memory.wf s.xm = true) : Memory.wf (zoneOnSwitch z s).xm = true := by
  unfold zoneOnSwitch; (try dsimp only) <;> (repeat' split) <;> simp +contextual (maxDischargeDepth := 20) [h]

@[simp] theorem zonesOnSwitch_wf  (s : State) (h : Memory.wf s.xm = true) : Memory.wf (zonesOnSwitch s).xm = true := by
  unfold zonesOnSwitch; (try dsimp only) <;> (repeat' split) <;> simp +contextual (maxDischargeDepth := 20) [h]

@[simp] theorem judgeZoneBand_wf (z : ZoneNo) (t : Int) (s : State) (h : Memory.wf s.xm = true) : Memory.wf (judgeZoneBand z t s).xm = true := by
  unfold judgeZoneBand; (try dsimp only) <;> (repeat' split) <;> simp +contextual (maxDischargeDepth := 20) [h]

@[simp] theorem zoneFaultNotice_wf (z : ZoneNo) (detail : Nat) (s : State) (h : Memory.wf s.xm = true) : Memory.wf (zoneFaultNotice z detail s).xm = true := by
  unfold zoneFaultNotice; (try dsimp only) <;> (repeat' split) <;> simp +contextual (maxDischargeDepth := 20) [h]

@[simp] theorem zoneRestoreNotice_wf (z : ZoneNo) (s : State) (h : Memory.wf s.xm = true) : Memory.wf (zoneRestoreNotice z s).xm = true := by
  unfold zoneRestoreNotice; (try dsimp only) <;> (repeat' split) <;> simp +contextual (maxDischargeDepth := 20) [h]

@[simp] theorem zoneSettleExpiry_wf (z : ZoneNo) (s : State) (h : Memory.wf s.xm = true) : Memory.wf (zoneSettleExpiry z s).xm = true := by
  unfold zoneSettleExpiry; (try dsimp only) <;> (repeat' split) <;> simp +contextual (maxDischargeDepth := 20) [h]

@[simp] theorem reportBoost_wf (d : Option DocketNo) (s : State) (h : Memory.wf s.xm = true) : Memory.wf (reportBoost d s).xm = true := by
  unfold reportBoost; (try dsimp only) <;> (repeat' split) <;> simp +contextual (maxDischargeDepth := 20) [h]

@[simp] theorem zoneIn_wf (z : ZoneNo) (board : Word) (docket : Option DocketNo) (s : State) (h : Memory.wf s.xm = true) : Memory.wf (zoneIn z board docket s).xm = true := by
  unfold zoneIn; (try dsimp only) <;> (repeat' split) <;> simp +contextual (maxDischargeDepth := 20) [h]

@[simp] theorem placePyro_wf  (s : State) (h : Memory.wf s.xm = true) : Memory.wf (placePyro s).xm = true := by
  unfold placePyro; (try dsimp only) <;> (repeat' split) <;> simp +contextual (maxDischargeDepth := 20) [h]

@[simp] theorem pyroIn_wf (board : Word) (docket : Option DocketNo) (s : State) (h : Memory.wf s.xm = true) : Memory.wf (pyroIn board docket s).xm = true := by
  unfold pyroIn; (try dsimp only) <;> (repeat' split) <;> simp +contextual (maxDischargeDepth := 20) [h]

@[simp] theorem pyroOut_wf (board : Word) (s : State) (h : Memory.wf s.xm = true) : Memory.wf (pyroOut board s).xm = true := by
  unfold pyroOut; (try dsimp only) <;> (repeat' split) <;> simp +contextual (maxDischargeDepth := 20) [h]

@[simp] theorem preheatDiscard_wf  (s : State) (h : Memory.wf s.xm = true) : Memory.wf (preheatDiscard s).xm = true := by
  unfold preheatDiscard; (try dsimp only) <;> (repeat' split) <;> simp +contextual (maxDischargeDepth := 20) [h]

@[simp] theorem pyroPlacement_wf  (s : State) (h : Memory.wf s.xm = true) : Memory.wf (pyroPlacement s).xm = true := by
  unfold pyroPlacement; (try dsimp only) <;> (repeat' split) <;> simp +contextual (maxDischargeDepth := 20) [h]

@[simp] theorem judgePumps_wf (p : PumpId) (s : State) (h : Memory.wf s.xm = true) : Memory.wf (judgePumps p s).xm = true := by
  unfold judgePumps; (try dsimp only) <;> (repeat' split) <;> simp +contextual (maxDischargeDepth := 20) [h]

@[simp] theorem judgeBothPumps_wf  (s : State) (h : Memory.wf s.xm = true) : Memory.wf (judgeBothPumps s).xm = true := by
  unfold judgeBothPumps; (try dsimp only) <;> (repeat' split) <;> simp +contextual (maxDischargeDepth := 20) [h]

@[simp] theorem markPassages_wf (p : PumpId) (s : State) (h : Memory.wf s.xm = true) : Memory.wf (markPassages p s).xm = true := by
  unfold markPassages; (try dsimp only) <;> (repeat' split) <;> simp +contextual (maxDischargeDepth := 20) [h]

@[simp] theorem pumpLeft_wf (p : PumpId) (old : DriveState) (s : State) (h : Memory.wf s.xm = true) : Memory.wf (pumpLeft p old s).xm = true := by
  unfold pumpLeft; (try dsimp only) <;> (repeat' split) <;> simp +contextual (maxDischargeDepth := 20) [h]

@[simp] theorem pumpMoved_wf (p : PumpId) (old : DriveState) (s : State) (h : Memory.wf s.xm = true) : Memory.wf (pumpMoved p old s).xm = true := by
  unfold pumpMoved; (try dsimp only) <;> (repeat' split) <;> simp +contextual (maxDischargeDepth := 20) [h]

@[simp] theorem changePump_wf (p : PumpId) (r : Pump) (s : State) (h : Memory.wf s.xm = true) : Memory.wf (changePump p r s).xm = true := by
  unfold changePump; (try dsimp only) <;> (repeat' split) <;> simp +contextual (maxDischargeDepth := 20) [h]

@[simp] theorem takeCommand_wf (p : PumpId) (c : Nat) (s : State) (h : Memory.wf s.xm = true) : Memory.wf (takeCommand p c s).xm = true := by
  unfold takeCommand; (try dsimp only) <;> (repeat' split) <;> simp +contextual (maxDischargeDepth := 20) [h]

@[simp] theorem followCommand_wf (p : PumpId) (s : State) (h : Memory.wf s.xm = true) : Memory.wf (followCommand p s).xm = true := by
  unfold followCommand; (try dsimp only) <;> (repeat' split) <;> simp +contextual (maxDischargeDepth := 20) [h]

@[simp] theorem followCommands_wf  (s : State) (h : Memory.wf s.xm = true) : Memory.wf (followCommands s).xm = true := by
  unfold followCommands; (try dsimp only) <;> (repeat' split) <;> simp +contextual (maxDischargeDepth := 20) [h]

@[simp] theorem endFeed_wf (result : RequestResult) (cause : Half) (s : State) (h : Memory.wf s.xm = true) : Memory.wf (endFeed result cause s).xm = true := by
  unfold endFeed; (try dsimp only) <;> (repeat' split) <;> simp +contextual (maxDischargeDepth := 20) [h]

@[simp] theorem followFeed_wf  (s : State) (h : Memory.wf s.xm = true) : Memory.wf (followFeed s).xm = true := by
  unfold followFeed; (try dsimp only) <;> (repeat' split) <;> simp +contextual (maxDischargeDepth := 20) [h]

@[simp] theorem judgeLevelAlarms_wf  (s : State) (h : Memory.wf s.xm = true) : Memory.wf (judgeLevelAlarms s).xm = true := by
  unfold judgeLevelAlarms; (try dsimp only) <;> (repeat' split) <;> simp +contextual (maxDischargeDepth := 20) [h]

@[simp] theorem levelChanged_wf  (s : State) (h : Memory.wf s.xm = true) : Memory.wf (levelChanged s).xm = true := by
  unfold levelChanged; (try dsimp only) <;> (repeat' split) <;> simp +contextual (maxDischargeDepth := 20) [h]

@[simp] theorem judgePotReady_wf  (s : State) (h : Memory.wf s.xm = true) : Memory.wf (judgePotReady s).xm = true := by
  unfold judgePotReady; (try dsimp only) <;> (repeat' split) <;> simp +contextual (maxDischargeDepth := 20) [h]

@[simp] theorem potFollowed_wf  (s : State) (h : Memory.wf s.xm = true) : Memory.wf (potFollowed s).xm = true := by
  unfold potFollowed; (try dsimp only) <;> (repeat' split) <;> simp +contextual (maxDischargeDepth := 20) [h]

@[simp] theorem enterPot_wf (st : PotState) (s : State) (h : Memory.wf s.xm = true) : Memory.wf (enterPot st s).xm = true := by
  unfold enterPot; (try dsimp only) <;> (repeat' split) <;> simp +contextual (maxDischargeDepth := 20) [h]

@[simp] theorem potOnMode_wf (old : Mode) (s : State) (h : Memory.wf s.xm = true) : Memory.wf (potOnMode old s).xm = true := by
  unfold potOnMode; (try dsimp only) <;> (repeat' split) <;> simp +contextual (maxDischargeDepth := 20) [h]

@[simp] theorem potOnSwitch_wf  (s : State) (h : Memory.wf s.xm = true) : Memory.wf (potOnSwitch s).xm = true := by
  unfold potOnSwitch; (try dsimp only) <;> (repeat' split) <;> simp +contextual (maxDischargeDepth := 20) [h]

@[simp] theorem meltCheck_wf  (s : State) (h : Memory.wf s.xm = true) : Memory.wf (meltCheck s).xm = true := by
  unfold meltCheck; (try dsimp only) <;> (repeat' split) <;> simp +contextual (maxDischargeDepth := 20) [h]

@[simp] theorem potBandCheck_wf (a : Int) (s : State) (h : Memory.wf s.xm = true) : Memory.wf (potBandCheck a s).xm = true := by
  unfold potBandCheck; (try dsimp only) <;> (repeat' split) <;> simp +contextual (maxDischargeDepth := 20) [h]

@[simp] theorem potSettleExpiry_wf  (s : State) (h : Memory.wf s.xm = true) : Memory.wf (potSettleExpiry s).xm = true := by
  unfold potSettleExpiry; (try dsimp only) <;> (repeat' split) <;> simp +contextual (maxDischargeDepth := 20) [h]

@[simp] theorem rampPump_wf (p : PumpId) (s : State) (h : Memory.wf s.xm = true) : Memory.wf (rampPump p s).xm = true := by
  unfold rampPump; (try dsimp only) <;> (repeat' split) <;> simp +contextual (maxDischargeDepth := 20) [h]

@[simp] theorem pumpRamp_wf  (s : State) (h : Memory.wf s.xm = true) : Memory.wf (pumpRamp s).xm = true := by
  unfold pumpRamp; (try dsimp only) <;> (repeat' split) <;> simp +contextual (maxDischargeDepth := 20) [h]

@[simp] theorem pumpOk_wf (p : PumpId) (value : Nat) (gateOpened : Nat) (s : State) (h : Memory.wf s.xm = true) : Memory.wf (pumpOk p value gateOpened s).xm = true := by
  unfold pumpOk; (try dsimp only) <;> (repeat' split) <;> simp +contextual (maxDischargeDepth := 20) [h]

@[simp] theorem pumpResult_wf (p : PumpId) (status : ResultStatus) (value : Nat) (gateOpened : Nat) (s : State) (h : Memory.wf s.xm = true) : Memory.wf (pumpResult p status value gateOpened s).xm = true := by
  unfold pumpResult; (try dsimp only) <;> (repeat' split) <;> simp +contextual (maxDischargeDepth := 20) [h]

@[simp] theorem markPump_wf (p : PumpId) (d : DocketNo) (s : State) (h : Memory.wf s.xm = true) : Memory.wf (markPump p d s).xm = true := by
  unfold markPump; (try dsimp only) <;> (repeat' split) <;> simp +contextual (maxDischargeDepth := 20) [h]

@[simp] theorem mainIn_wf (board : Word) (docket : Option DocketNo) (s : State) (h : Memory.wf s.xm = true) : Memory.wf (mainIn board docket s).xm = true := by
  unfold mainIn; (try dsimp only) <;> (repeat' split) <;> simp +contextual (maxDischargeDepth := 20) [h]

@[simp] theorem chipIn_wf (board : Word) (docket : Option DocketNo) (s : State) (h : Memory.wf s.xm = true) : Memory.wf (chipIn board docket s).xm = true := by
  unfold chipIn; (try dsimp only) <;> (repeat' split) <;> simp +contextual (maxDischargeDepth := 20) [h]

@[simp] theorem mainCross_wf (board : Word) (s : State) (h : Memory.wf s.xm = true) : Memory.wf (mainCross board s).xm = true := by
  unfold mainCross; (try dsimp only) <;> (repeat' split) <;> simp +contextual (maxDischargeDepth := 20) [h]

@[simp] theorem waveOut_wf (p : PumpId) (off : Nat) (board : Word) (s : State) (h : Memory.wf s.xm = true) : Memory.wf (waveOut p off board s).xm = true := by
  unfold waveOut; (try dsimp only) <;> (repeat' split) <;> simp +contextual (maxDischargeDepth := 20) [h]

@[simp] theorem chipOut_wf (board : Word) (s : State) (h : Memory.wf s.xm = true) : Memory.wf (chipOut board s).xm = true := by
  unfold chipOut; (try dsimp only) <;> (repeat' split) <;> simp +contextual (maxDischargeDepth := 20) [h]

@[simp] theorem mainOut_wf (board : Word) (s : State) (h : Memory.wf s.xm = true) : Memory.wf (mainOut board s).xm = true := by
  unfold mainOut; (try dsimp only) <;> (repeat' split) <;> simp +contextual (maxDischargeDepth := 20) [h]

@[simp] theorem endCalibrate_wf (cell : CellNo) (result : RequestResult) (s : State) (h : Memory.wf s.xm = true) : Memory.wf (endCalibrate cell result s).xm = true := by
  unfold endCalibrate; (try dsimp only) <;> (repeat' split) <;> simp +contextual (maxDischargeDepth := 20) [h]

@[simp] theorem abortCalibrate_wf (result : RequestResult) (s : State) (h : Memory.wf s.xm = true) : Memory.wf (abortCalibrate result s).xm = true := by
  unfold abortCalibrate; (try dsimp only) <;> (repeat' split) <;> simp +contextual (maxDischargeDepth := 20) [h]

@[simp] theorem completeCalibrate_wf (cell : CellNo) (sum : Nat) (failures : Nat) (s : State) (h : Memory.wf s.xm = true) : Memory.wf (completeCalibrate cell sum failures s).xm = true := by
  unfold completeCalibrate; (try dsimp only) <;> (repeat' split) <;> simp +contextual (maxDischargeDepth := 20) [h]

@[simp] theorem calibrateSample_wf (distance : Option Nat) (s : State) (h : Memory.wf s.xm = true) : Memory.wf (calibrateSample distance s).xm = true := by
  unfold calibrateSample; (try dsimp only) <;> (repeat' split) <;> simp +contextual (maxDischargeDepth := 20) [h]

@[simp] theorem echoFailed_wf  (s : State) (h : Memory.wf s.xm = true) : Memory.wf (echoFailed s).xm = true := by
  unfold echoFailed; (try dsimp only) <;> (repeat' split) <;> simp +contextual (maxDischargeDepth := 20) [h]

@[simp] theorem echoValid_wf (d : Nat) (s : State) (h : Memory.wf s.xm = true) : Memory.wf (echoValid d s).xm = true := by
  unfold echoValid; (try dsimp only) <;> (repeat' split) <;> simp +contextual (maxDischargeDepth := 20) [h]

@[simp] theorem echoResult_wf (status : ResultStatus) (value : Nat) (s : State) (h : Memory.wf s.xm = true) : Memory.wf (echoResult status value s).xm = true := by
  unfold echoResult; (try dsimp only) <;> (repeat' split) <;> simp +contextual (maxDischargeDepth := 20) [h]

@[simp] theorem echoPlacement_wf  (s : State) (h : Memory.wf s.xm = true) : Memory.wf (echoPlacement s).xm = true := by
  unfold echoPlacement; (try dsimp only) <;> (repeat' split) <;> simp +contextual (maxDischargeDepth := 20) [h]

@[simp] theorem feedRequestExpiry_wf  (s : State) (h : Memory.wf s.xm = true) : Memory.wf (feedRequestExpiry s).xm = true := by
  unfold feedRequestExpiry; (try dsimp only) <;> (repeat' split) <;> simp +contextual (maxDischargeDepth := 20) [h]

@[simp] theorem feedTimeout_wf  (s : State) (h : Memory.wf s.xm = true) : Memory.wf (feedTimeout s).xm = true := by
  unfold feedTimeout; (try dsimp only) <;> (repeat' split) <;> simp +contextual (maxDischargeDepth := 20) [h]

@[simp] theorem enterExtract_wf (new : ExtractState) (s : State) (h : Memory.wf s.xm = true) : Memory.wf (enterExtract new s).xm = true := by
  unfold enterExtract; (try dsimp only) <;> (repeat' split) <;> simp +contextual (maxDischargeDepth := 20) [h]

@[simp] theorem deriveExtract_wf  (s : State) (h : Memory.wf s.xm = true) : Memory.wf (deriveExtract s).xm = true := by
  unfold deriveExtract; (try dsimp only) <;> (repeat' split) <;> simp +contextual (maxDischargeDepth := 20) [h]

@[simp] theorem condExpiry_wf (c : PressureCond) (s : State) (h : Memory.wf s.xm = true) : Memory.wf (condExpiry c s).xm = true := by
  unfold condExpiry; (try dsimp only) <;> (repeat' split) <;> simp +contextual (maxDischargeDepth := 20) [h]

@[simp] theorem placeFan_wf  (s : State) (h : Memory.wf s.xm = true) : Memory.wf (placeFan s).xm = true := by
  unfold placeFan; (try dsimp only) <;> (repeat' split) <;> simp +contextual (maxDischargeDepth := 20) [h]

@[simp] theorem fanResult_wf (status : ResultStatus) (value : Nat) (s : State) (h : Memory.wf s.xm = true) : Memory.wf (fanResult status value s).xm = true := by
  unfold fanResult; (try dsimp only) <;> (repeat' split) <;> simp +contextual (maxDischargeDepth := 20) [h]

@[simp] theorem fanStallExpiry_wf  (s : State) (h : Memory.wf s.xm = true) : Memory.wf (fanStallExpiry s).xm = true := by
  unfold fanStallExpiry; (try dsimp only) <;> (repeat' split) <;> simp +contextual (maxDischargeDepth := 20) [h]

@[simp] theorem fanClearExpiry_wf  (s : State) (h : Memory.wf s.xm = true) : Memory.wf (fanClearExpiry s).xm = true := by
  unfold fanClearExpiry; (try dsimp only) <;> (repeat' split) <;> simp +contextual (maxDischargeDepth := 20) [h]

@[simp] theorem linkNotice_wf (sensor : FumeSensor) (fault : Bool) (s : State) (h : Memory.wf s.xm = true) : Memory.wf (linkNotice sensor fault s).xm = true := by
  unfold linkNotice; (try dsimp only) <;> (repeat' split) <;> simp +contextual (maxDischargeDepth := 20) [h]

@[simp] theorem fanStart_wf  (s : State) (h : Memory.wf s.xm = true) : Memory.wf (fanStart s).xm = true := by
  unfold fanStart; (try dsimp only) <;> (repeat' split) <;> simp +contextual (maxDischargeDepth := 20) [h]

@[simp] theorem suppressionExpiry_wf  (s : State) (h : Memory.wf s.xm = true) : Memory.wf (suppressionExpiry s).xm = true := by
  unfold suppressionExpiry; (try dsimp only) <;> (repeat' split) <;> simp +contextual (maxDischargeDepth := 20) [h]

@[simp] theorem runOnExpiry_wf  (s : State) (h : Memory.wf s.xm = true) : Memory.wf (runOnExpiry s).xm = true := by
  unfold runOnExpiry; (try dsimp only) <;> (repeat' split) <;> simp +contextual (maxDischargeDepth := 20) [h]

@[simp] theorem flkStart_wf  (s : State) (h : Memory.wf s.xm = true) : Memory.wf (flkStart s).xm = true := by
  unfold flkStart; (try dsimp only) <;> (repeat' split) <;> simp +contextual (maxDischargeDepth := 20) [h]

@[simp] theorem fluxOnMode_wf  (s : State) (h : Memory.wf s.xm = true) : Memory.wf (fluxOnMode s).xm = true := by
  unfold fluxOnMode; (try dsimp only) <;> (repeat' split) <;> simp +contextual (maxDischargeDepth := 20) [h]

@[simp] theorem potRequestsOnMode_wf  (s : State) (h : Memory.wf s.xm = true) : Memory.wf (potRequestsOnMode s).xm = true := by
  unfold potRequestsOnMode; (try dsimp only) <;> (repeat' split) <;> simp +contextual (maxDischargeDepth := 20) [h]

@[simp] theorem ptcOnMode_wf (old : Mode) (s : State) (h : Memory.wf s.xm = true) : Memory.wf (ptcOnMode old s).xm = true := by
  unfold ptcOnMode; (try dsimp only) <;> (repeat' split) <;> simp +contextual (maxDischargeDepth := 20) [h]

@[simp] theorem blocksOnMode_wf (old : Mode) (s : State) (h : Memory.wf s.xm = true) : Memory.wf (blocksOnMode old s).xm = true := by
  unfold blocksOnMode; (try dsimp only) <;> (repeat' split) <;> simp +contextual (maxDischargeDepth := 20) [h]

@[simp] theorem changeMode_wf (m : Mode) (s : State) (h : Memory.wf s.xm = true) : Memory.wf (changeMode m s).xm = true := by
  unfold changeMode; (try dsimp only) <;> (repeat' split) <;> simp +contextual (maxDischargeDepth := 20) [h]

@[simp] theorem replyActive_wf (c : CellNo) (s : State) (h : Memory.wf s.xm = true) : Memory.wf (replyActive c s).xm = true := by
  unfold replyActive; simp [h]

@[simp] theorem endChangeover_wf (result : RequestResult) (s : State) (h : Memory.wf s.xm = true) : Memory.wf (endChangeover result s).xm = true := by
  unfold endChangeover; (try dsimp only) <;> (repeat' split) <;> simp +contextual (maxDischargeDepth := 20) [h]

@[simp] theorem blocksOnSwitch_wf  (s : State) (h : Memory.wf s.xm = true) : Memory.wf (blocksOnSwitch s).xm = true := by
  unfold blocksOnSwitch; (try dsimp only) <;> (repeat' split) <;> simp +contextual (maxDischargeDepth := 20) [h]

@[simp] theorem switchProfile_wf (c : Changeover) (s : State) (h : Memory.wf s.xm = true) : Memory.wf (switchProfile c s).xm = true := by
  unfold switchProfile; (try dsimp only) <;> (repeat' split) <;> simp +contextual (maxDischargeDepth := 20) [h]

@[simp] theorem switchIfDraining_wf  (s : State) (h : Memory.wf s.xm = true) : Memory.wf (switchIfDraining s).xm = true := by
  unfold switchIfDraining; (try dsimp only) <;> (repeat' split) <;> simp +contextual (maxDischargeDepth := 20) [h]

@[simp] theorem changeoverComplete_wf  (s : State) (h : Memory.wf s.xm = true) : Memory.wf (changeoverComplete s).xm = true := by
  unfold changeoverComplete; (try dsimp only) <;> (repeat' split) <;> simp +contextual (maxDischargeDepth := 20) [h]

@[simp] theorem changeoverTimeout_wf  (s : State) (h : Memory.wf s.xm = true) : Memory.wf (changeoverTimeout s).xm = true := by
  unfold changeoverTimeout; (try dsimp only) <;> (repeat' split) <;> simp +contextual (maxDischargeDepth := 20) [h]

@[simp] theorem endFinish_wf (result : RequestResult) (s : State) (h : Memory.wf s.xm = true) : Memory.wf (endFinish result s).xm = true := by
  unfold endFinish; (try dsimp only) <;> (repeat' split) <;> simp +contextual (maxDischargeDepth := 20) [h]

@[simp] theorem finishComplete_wf  (s : State) (h : Memory.wf s.xm = true) : Memory.wf (finishComplete s).xm = true := by
  unfold finishComplete; (try dsimp only) <;> (repeat' split) <;> simp +contextual (maxDischargeDepth := 20) [h]

@[simp] theorem mapEmptied_wf (cause : EmptyCause) (s : State) (h : Memory.wf s.xm = true) : Memory.wf (mapEmptied cause s).xm = true := by
  unfold mapEmptied; (try dsimp only) <;> (repeat' split) <;> simp +contextual (maxDischargeDepth := 20) [h]

@[simp] theorem markSafeDuring_wf  (s : State) (h : Memory.wf s.xm = true) : Memory.wf (markSafeDuring s).xm = true := by
  unfold markSafeDuring; (try dsimp only) <;> (repeat' split) <;> simp +contextual (maxDischargeDepth := 20) [h]

@[simp] theorem enterSafe_wf  (s : State) (h : Memory.wf s.xm = true) : Memory.wf (enterSafe s).xm = true := by
  unfold enterSafe; (try dsimp only) <;> (repeat' split) <;> simp +contextual (maxDischargeDepth := 20) [h]

@[simp] theorem safeIfOut_wf  (s : State) (h : Memory.wf s.xm = true) : Memory.wf (safeIfOut s).xm = true := by
  unfold safeIfOut; (try dsimp only) <;> (repeat' split) <;> simp +contextual (maxDischargeDepth := 20) [h]

@[simp] theorem afterAlarm_wf (before : Bool) (s : State) (h : Memory.wf s.xm = true) : Memory.wf (afterAlarm before s).xm = true := by
  unfold afterAlarm; (try dsimp only) <;> (repeat' split) <;> simp +contextual (maxDischargeDepth := 20) [h]

@[simp] theorem raiseAny_wf (a : Alarm) (detail : Half) (docket : Option DocketNo) (s : State) (h : Memory.wf s.xm = true) : Memory.wf (raiseAny a detail docket s).xm = true := by
  unfold raiseAny; (try dsimp only) <;> (repeat' split) <;> simp +contextual (maxDischargeDepth := 20) [h]

@[simp] theorem pulseAny_wf (a : Alarm) (detail : Half) (docket : Option DocketNo) (s : State) (h : Memory.wf s.xm = true) : Memory.wf (pulseAny a detail docket s).xm = true := by
  unfold pulseAny; (try dsimp only) <;> (repeat' split) <;> simp +contextual (maxDischargeDepth := 20) [h]

@[simp] theorem clearAny_wf (a : Alarm) (s : State) (h : Memory.wf s.xm = true) : Memory.wf (clearAny a s).xm = true := by
  unfold clearAny; (try dsimp only) <;> (repeat' split) <;> simp +contextual (maxDischargeDepth := 20) [h]

@[simp] theorem judgeAny_wf (a : Alarm) (holds : Bool) (detail : Half) (s : State) (h : Memory.wf s.xm = true) : Memory.wf (judgeAny a holds detail s).xm = true := by
  unfold judgeAny; (try dsimp only) <;> (repeat' split) <;> simp +contextual (maxDischargeDepth := 20) [h]

@[simp] theorem judgeOvertemp_wf (z : ZoneNo) (s : State) (h : Memory.wf s.xm = true) : Memory.wf (judgeOvertemp z s).xm = true := by
  unfold judgeOvertemp; (try dsimp only) <;> (repeat' split) <;> simp +contextual (maxDischargeDepth := 20) [h]

@[simp] theorem zoneNotice_wf (z : ZoneNo) (n : ThermoNotice) (s : State) (h : Memory.wf s.xm = true) : Memory.wf (zoneNotice z n s).xm = true := by
  unfold zoneNotice; (try dsimp only) <;> (repeat' split) <;> simp +contextual (maxDischargeDepth := 20) [h]

@[simp] theorem zoneGood_wf (z : ZoneNo) (t : Int) (s : State) (h : Memory.wf s.xm = true) : Memory.wf (zoneGood z t s).xm = true := by
  unfold zoneGood; (try dsimp only) <;> (repeat' split) <;> simp +contextual (maxDischargeDepth := 20) [h]

@[simp] theorem zoneFrame_wf (z : ZoneNo) (n : ThermoNotice) (good : Option Half) (s : State) (h : Memory.wf s.xm = true) : Memory.wf (zoneFrame z n good s).xm = true := by
  unfold zoneFrame; (try dsimp only) <;> (repeat' split) <;> simp +contextual (maxDischargeDepth := 20) [h]

@[simp] theorem followPotSensor_wf (before : Bool) (s : State) (h : Memory.wf s.xm = true) : Memory.wf (followPotSensor before s).xm = true := by
  unfold followPotSensor; (try dsimp only) <;> (repeat' split) <;> simp +contextual (maxDischargeDepth := 20) [h]

@[simp] theorem judgePotSensor_wf  (s : State) (h : Memory.wf s.xm = true) : Memory.wf (judgePotSensor s).xm = true := by
  unfold judgePotSensor; (try dsimp only) <;> (repeat' split) <;> simp +contextual (maxDischargeDepth := 20) [h]

@[simp] theorem judgePotOvertemp_wf  (s : State) (h : Memory.wf s.xm = true) : Memory.wf (judgePotOvertemp s).xm = true := by
  unfold judgePotOvertemp; (try dsimp only) <;> (repeat' split) <;> simp +contextual (maxDischargeDepth := 20) [h]

@[simp] theorem potAGood_wf (a : Int) (s : State) (h : Memory.wf s.xm = true) : Memory.wf (potAGood a s).xm = true := by
  unfold potAGood; (try dsimp only) <;> (repeat' split) <;> simp +contextual (maxDischargeDepth := 20) [h]

@[simp] theorem potFrame_wf (isA : Bool) (n : ThermoNotice) (good : Option Half) (s : State) (h : Memory.wf s.xm = true) : Memory.wf (potFrame isA n good s).xm = true := by
  unfold potFrame; (try dsimp only) <;> (repeat' split) <;> simp +contextual (maxDischargeDepth := 20) [h]

@[simp] theorem handFrame_wf (c : Fin 8) (n : ThermoNotice) (good : Option Half) (s : State) (h : Memory.wf s.xm = true) : Memory.wf (handFrame c n good s).xm = true := by
  unfold handFrame; (try dsimp only) <;> (repeat' split) <;> simp +contextual (maxDischargeDepth := 20) [h]

@[simp] theorem thermoFrame_wf (f : ThermoFrame) (s : State) (h : Memory.wf s.xm = true) : Memory.wf (thermoFrame f s).xm = true := by
  unfold thermoFrame; (try dsimp only) <;> (repeat' split) <;> simp +contextual (maxDischargeDepth := 20) [h]

@[simp] theorem handLink_wf (sensor : FumeSensor) (n : LinkNotice) (s : State) (h : Memory.wf s.xm = true) : Memory.wf (handLink sensor n s).xm = true := by
  unfold handLink; (try dsimp only) <;> (repeat' split) <;> simp +contextual (maxDischargeDepth := 20) [h]

@[simp] theorem pollEnded_wf (bus : FumeBus) (s : State) (h : Memory.wf s.xm = true) : Memory.wf (pollEnded bus s).xm = true := by
  unfold pollEnded; (try dsimp only) <;> (repeat' split) <;> simp +contextual (maxDischargeDepth := 20) [h]

@[simp] theorem toClaimant_wf (c : CountUnit) (status : ResultStatus) (value : Nat) (s : State) (h : Memory.wf s.xm = true) : Memory.wf (toClaimant c status value s).xm = true := by
  unfold toClaimant; (try dsimp only) <;> (repeat' split) <;> simp +contextual (maxDischargeDepth := 20) [h]

@[simp] theorem endUnit_wf (u : UnitNo) (c : CountUnit) (status : ResultStatus) (value : Option Nat) (s : State) (h : Memory.wf s.xm = true) : Memory.wf (endUnit u c status value s).xm = true := by
  unfold endUnit; (try dsimp only) <;> (repeat' split) <;> simp +contextual (maxDischargeDepth := 20) [h]

@[simp] theorem gateClose_wf (u : UnitNo) (s : State) (h : Memory.wf s.xm = true) : Memory.wf (gateClose u s).xm = true := by
  unfold gateClose; (try dsimp only) <;> (repeat' split) <;> simp +contextual (maxDischargeDepth := 20) [h]

@[simp] theorem sourceEdge_wf (src : Source) (s : State) (h : Memory.wf s.xm = true) : Memory.wf (sourceEdge src s).xm = true := by
  unfold sourceEdge; (try dsimp only) <;> (repeat' split) <;> simp +contextual (maxDischargeDepth := 20) [h]

@[simp] theorem spanFalling_wf (src : Source) (micros : Nat) (s : State) (h : Memory.wf s.xm = true) : Memory.wf (spanFalling src micros s).xm = true := by
  unfold spanFalling; (try dsimp only) <;> (repeat' split) <;> simp +contextual (maxDischargeDepth := 20) [h]

@[simp] theorem endNoEdge_wf (src : Source) (s : State) (h : Memory.wf s.xm = true) : Memory.wf (endNoEdge src s).xm = true := by
  unfold endNoEdge; (try dsimp only) <;> (repeat' split) <;> simp +contextual (maxDischargeDepth := 20) [h]

@[simp] theorem spanNoEdge_wf (src : Source) (s : State) (h : Memory.wf s.xm = true) : Memory.wf (spanNoEdge src s).xm = true := by
  unfold spanNoEdge; (try dsimp only) <;> (repeat' split) <;> simp +contextual (maxDischargeDepth := 20) [h]

@[simp] theorem endOver_wf (src : Source) (s : State) (h : Memory.wf s.xm = true) : Memory.wf (endOver src s).xm = true := by
  unfold endOver; (try dsimp only) <;> (repeat' split) <;> simp +contextual (maxDischargeDepth := 20) [h]

@[simp] theorem spanOverrange_wf (src : Source) (s : State) (h : Memory.wf s.xm = true) : Memory.wf (spanOverrange src s).xm = true := by
  unfold spanOverrange; (try dsimp only) <;> (repeat' split) <;> simp +contextual (maxDischargeDepth := 20) [h]

@[simp] theorem openExpiry_wf  (s : State) (h : Memory.wf s.xm = true) : Memory.wf (openExpiry s).xm = true := by
  unfold openExpiry; (try dsimp only) <;> (repeat' split) <;> simp +contextual (maxDischargeDepth := 20) [h]

@[simp] theorem checkLength_wf (d : DocketNo) (len : Nat) (s : State) (h : Memory.wf s.xm = true) : Memory.wf (checkLength d len s).xm = true := by
  unfold checkLength; (try dsimp only) <;> (repeat' split) <;> simp +contextual (maxDischargeDepth := 20) [h]

@[simp] theorem matchWrites_wf (e : MapEntry) (d : DocketNo) (unverified : Bool) (s : State) (h : Memory.wf s.xm = true) : Memory.wf (matchWrites e d unverified s).xm = true := by
  unfold matchWrites; (try dsimp only) <;> (repeat' split) <;> simp +contextual (maxDischargeDepth := 20) [h]

@[simp] theorem judgeProfile_wf (d : DocketNo) (s : State) (h : Memory.wf s.xm = true) : Memory.wf (judgeProfile d s).xm = true := by
  unfold judgeProfile; (try dsimp only) <;> (repeat' split) <;> simp +contextual (maxDischargeDepth := 20) [h]

@[simp] theorem matchBoard_wf (board : Word) (d : DocketNo) (unverified : Bool) (s : State) (h : Memory.wf s.xm = true) : Memory.wf (matchBoard board d unverified s).xm = true := by
  unfold matchBoard; (try dsimp only) <;> (repeat' split) <;> simp +contextual (maxDischargeDepth := 20) [h]

@[simp] theorem setUnannounced_wf (n : Nat) (s : State) (h : Memory.wf s.xm = true) : Memory.wf (setUnannounced n s).xm = true := by
  unfold setUnannounced; (try dsimp only) <;> (repeat' split) <;> simp +contextual (maxDischargeDepth := 20) [h]

@[simp] theorem foundUnannounced_wf  (s : State) (h : Memory.wf s.xm = true) : Memory.wf (foundUnannounced s).xm = true := by
  unfold foundUnannounced; (try dsimp only) <;> (repeat' split) <;> simp +contextual (maxDischargeDepth := 20) [h]

@[simp] theorem settleBoard_wf (board : Word) (d : Option DocketNo) (unverified : Bool) (s : State) (h : Memory.wf s.xm = true) : Memory.wf (settleBoard board d unverified s).xm = true := by
  unfold settleBoard; (try dsimp only) <;> (repeat' split) <;> simp +contextual (maxDischargeDepth := 20) [h]

@[simp] theorem refuseInSearch_wf (d : DocketNo) (a : Nat) (s : State) (h : Memory.wf s.xm = true) : Memory.wf (refuseInSearch d a s).xm = true := by
  unfold refuseInSearch; (try dsimp only) <;> (repeat' split) <;> simp +contextual (maxDischargeDepth := 20) [h]

@[simp] theorem closeNoRead_wf (w : ReadWindow) (s : State) (h : Memory.wf s.xm = true) : Memory.wf (closeNoRead w s).xm = true := by
  unfold closeNoRead; (try dsimp only) <;> (repeat' split) <;> simp +contextual (maxDischargeDepth := 20) [h]

@[simp] theorem closeRead_wf (w : ReadWindow) (id : List Byte) (s : State) (h : Memory.wf s.xm = true) : Memory.wf (closeRead w id s).xm = true := by
  unfold closeRead; (try dsimp only) <;> (repeat' split) <;> simp +contextual (maxDischargeDepth := 20) [h]

@[simp] theorem scanStart_wf (board : Word) (s : State) (h : Memory.wf s.xm = true) : Memory.wf (scanStart board s).xm = true := by
  unfold scanStart; (try dsimp only) <;> (repeat' split) <;> simp +contextual (maxDischargeDepth := 20) [h]

@[simp] theorem scanEnd_wf (board : Word) (s : State) (h : Memory.wf s.xm = true) : Memory.wf (scanEnd board s).xm = true := by
  unfold scanEnd; (try dsimp only) <;> (repeat' split) <;> simp +contextual (maxDischargeDepth := 20) [h]

@[simp] theorem messageEnd_wf (w : ReadWindow) (s : State) (h : Memory.wf s.xm = true) : Memory.wf (messageEnd w s).xm = true := by
  unfold messageEnd; (try dsimp only) <;> (repeat' split) <;> simp +contextual (maxDischargeDepth := 20) [h]

@[simp] theorem takeCharacter_wf (c : RxChar) (s : State) (h : Memory.wf s.xm = true) : Memory.wf (takeCharacter c s).xm = true := by
  unfold takeCharacter; (try dsimp only) <;> (repeat' split) <;> simp +contextual (maxDischargeDepth := 20) [h]

@[simp] theorem takeHeld_wf  (s : State) (h : Memory.wf s.xm = true) : Memory.wf (takeHeld s).xm = true := by
  unfold takeHeld; (try dsimp only) <;> (repeat' split) <;> simp +contextual (maxDischargeDepth := 20) [h]

@[simp] theorem receiveCharacter_wf (f : RxFrame) (prevTakenFirst : Bool) (takenNow : Bool) (s : State) (h : Memory.wf s.xm = true) : Memory.wf (receiveCharacter f prevTakenFirst takenNow s).xm = true := by
  unfold receiveCharacter; (try dsimp only) <;> (repeat' split) <;> simp +contextual (maxDischargeDepth := 20) [h]

@[simp] theorem closeDocket_wf (d : DocketNo) (outcome : Byte) (s : State) (h : Memory.wf s.xm = true) : Memory.wf (closeDocket d outcome s).xm = true := by
  unfold closeDocket; (try dsimp only) <;> (repeat' split) <;> simp +contextual (maxDischargeDepth := 20) [h]

@[simp] theorem finaliseDocket_wf (d : DocketNo) (s : State) (h : Memory.wf s.xm = true) : Memory.wf (finaliseDocket d s).xm = true := by
  unfold finaliseDocket; (try dsimp only) <;> (repeat' split) <;> simp +contextual (maxDischargeDepth := 20) [h]

@[simp] theorem entryLeft_wf (e : MapEntry) (s : State) (h : Memory.wf s.xm = true) : Memory.wf (entryLeft e s).xm = true := by
  unfold entryLeft; (try dsimp only) <;> (repeat' split) <;> simp +contextual (maxDischargeDepth := 20) [h]

@[simp] theorem entryLost_wf (e : MapEntry) (s : State) (h : Memory.wf s.xm = true) : Memory.wf (entryLost e s).xm = true := by
  unfold entryLost; (try dsimp only) <;> (repeat' split) <;> simp +contextual (maxDischargeDepth := 20) [h]

@[simp] theorem docketDiscard_wf (entries : List MapEntry) (s : State) (h : Memory.wf s.xm = true) : Memory.wf (docketDiscard entries s).xm = true := by
  unfold docketDiscard; (try dsimp only) <;> (repeat' split) <;> simp +contextual (maxDischargeDepth := 20) [h]

@[simp] theorem discardMap_wf  (s : State) (h : Memory.wf s.xm = true) : Memory.wf (discardMap s).xm = true := by
  unfold discardMap; (try dsimp only) <;> (repeat' split) <;> simp +contextual (maxDischargeDepth := 20) [h]

@[simp] theorem boardJam_wf (cause : JamCause) (docket : Option DocketNo) (jam : JamOrder) (s : State) (h : Memory.wf s.xm = true) : Memory.wf (boardJam cause docket jam s).xm = true := by
  unfold boardJam; (try dsimp only) <;> (repeat' split) <;> simp +contextual (maxDischargeDepth := 20) [h]

@[simp] theorem writeStage_wf (docket : Option DocketNo) (stage : Option Byte) (s : State) (h : Memory.wf s.xm = true) : Memory.wf (writeStage docket stage s).xm = true := by
  unfold writeStage; (try dsimp only) <;> (repeat' split) <;> simp +contextual (maxDischargeDepth := 20) [h]

@[simp] theorem takeStage_wf (board : Word) (docket : Option DocketNo) (e : Stage) (s : State) (h : Memory.wf s.xm = true) : Memory.wf (takeStage board docket e s).xm = true := by
  unfold takeStage; (try dsimp only) <;> (repeat' split) <;> simp +contextual (maxDischargeDepth := 20) [h]

@[simp] theorem issueStage_wf (board : Word) (e : Stage) (s : State) (h : Memory.wf s.xm = true) : Memory.wf (issueStage board e s).xm = true := by
  unfold issueStage; (try dsimp only) <;> (repeat' split) <;> simp +contextual (maxDischargeDepth := 20) [h]

@[simp] theorem issueStages_wf (d : Description) (board : Word) (s : State) (h : Memory.wf s.xm = true) : Memory.wf (issueStages d board s).xm = true := by
  unfold issueStages; (try dsimp only) <;> (repeat' split) <;> simp +contextual (maxDischargeDepth := 20) [h]

@[simp] theorem stagePhase_wf  (s : State) (h : Memory.wf s.xm = true) : Memory.wf (stagePhase s).xm = true := by
  unfold stagePhase; (try dsimp only) <;> (repeat' split) <;> simp +contextual (maxDischargeDepth := 20) [h]

@[simp] theorem exitOpen_wf (board : Word) (s : State) (h : Memory.wf s.xm = true) : Memory.wf (exitOpen board s).xm = true := by
  unfold exitOpen; (try dsimp only) <;> (repeat' split) <;> simp +contextual (maxDischargeDepth := 20) [h]

@[simp] theorem exitLate_wf (board : Word) (jam : JamOrder) (s : State) (h : Memory.wf s.xm = true) : Memory.wf (exitLate board jam s).xm = true := by
  unfold exitLate; (try dsimp only) <;> (repeat' split) <;> simp +contextual (maxDischargeDepth := 20) [h]

@[simp] theorem exitStagesOf_wf (d : Description) (jam : JamOrder) (board : Word) (s : State) (h : Memory.wf s.xm = true) : Memory.wf (exitStagesOf d jam board s).xm = true := by
  unfold exitStagesOf; (try dsimp only) <;> (repeat' split) <;> simp +contextual (maxDischargeDepth := 20) [h]

@[simp] theorem exitPhase_wf (jam : JamOrder) (s : State) (h : Memory.wf s.xm = true) : Memory.wf (exitPhase jam s).xm = true := by
  unfold exitPhase; (try dsimp only) <;> (repeat' split) <;> simp +contextual (maxDischargeDepth := 20) [h]

@[simp] theorem createEntry_wf (held : Bool) (s : State) (h : Memory.wf s.xm = true) : Memory.wf (createEntry held s).xm = true := by
  unfold createEntry; (try dsimp only) <;> (repeat' split) <;> simp +contextual (maxDischargeDepth := 20) [h]

@[simp] theorem entryLeading_wf (grant : Bool) (jam : JamOrder) (s : State) (h : Memory.wf s.xm = true) : Memory.wf (entryLeading grant jam s).xm = true := by
  unfold entryLeading; (try dsimp only) <;> (repeat' split) <;> simp +contextual (maxDischargeDepth := 20) [h]

@[simp] theorem lengthKnown_wf (e : MapEntry) (s : State) (h : Memory.wf s.xm = true) : Memory.wf (lengthKnown e s).xm = true := by
  unfold lengthKnown; (try dsimp only) <;> (repeat' split) <;> simp +contextual (maxDischargeDepth := 20) [h]

@[simp] theorem entryTrailing_wf  (s : State) (h : Memory.wf s.xm = true) : Memory.wf (entryTrailing s).xm = true := by
  unfold entryTrailing; (try dsimp only) <;> (repeat' split) <;> simp +contextual (maxDischargeDepth := 20) [h]

@[simp] theorem entryPhase_wf (blocked : Bool) (grant : Bool) (jam : JamOrder) (s : State) (h : Memory.wf s.xm = true) : Memory.wf (entryPhase blocked grant jam s).xm = true := by
  unfold entryPhase; (try dsimp only) <;> (repeat' split) <;> simp +contextual (maxDischargeDepth := 20) [h]

@[simp] theorem exitLeading_wf (jam : JamOrder) (s : State) (h : Memory.wf s.xm = true) : Memory.wf (exitLeading jam s).xm = true := by
  unfold exitLeading; (try dsimp only) <;> (repeat' split) <;> simp +contextual (maxDischargeDepth := 20) [h]

@[simp] theorem exitTrailing_wf  (s : State) (h : Memory.wf s.xm = true) : Memory.wf (exitTrailing s).xm = true := by
  unfold exitTrailing; (try dsimp only) <;> (repeat' split) <;> simp +contextual (maxDischargeDepth := 20) [h]

@[simp] theorem exitEyePhase_wf (blocked : Bool) (jam : JamOrder) (s : State) (h : Memory.wf s.xm = true) : Memory.wf (exitEyePhase blocked jam s).xm = true := by
  unfold exitEyePhase; (try dsimp only) <;> (repeat' split) <;> simp +contextual (maxDischargeDepth := 20) [h]

@[simp] theorem entryBlocked_wf (jam : JamOrder) (s : State) (h : Memory.wf s.xm = true) : Memory.wf (entryBlocked jam s).xm = true := by
  unfold entryBlocked; (try dsimp only) <;> (repeat' split) <;> simp +contextual (maxDischargeDepth := 20) [h]

@[simp] theorem exitBlocked_wf (jam : JamOrder) (s : State) (h : Memory.wf s.xm = true) : Memory.wf (exitBlocked jam s).xm = true := by
  unfold exitBlocked; (try dsimp only) <;> (repeat' split) <;> simp +contextual (maxDischargeDepth := 20) [h]

@[simp] theorem takeBlocked_wf (jam : JamOrder) (s : State) (h : Memory.wf s.xm = true) : Memory.wf (takeBlocked jam s).xm = true := by
  unfold takeBlocked; (try dsimp only) <;> (repeat' split) <;> simp +contextual (maxDischargeDepth := 20) [h]

@[simp] theorem takeSettled_wf  (s : State) (h : Memory.wf s.xm = true) : Memory.wf (takeSettled s).xm = true := by
  unfold takeSettled; (try dsimp only) <;> (repeat' split) <;> simp +contextual (maxDischargeDepth := 20) [h]

@[simp] theorem sweepCell_wf (c : CellNo) (s : State) (h : Memory.wf s.xm = true) : Memory.wf (sweepCell c s).xm = true := by
  unfold sweepCell; (try dsimp only) <;> (repeat' split) <;> simp +contextual (maxDischargeDepth := 20) [h]

@[simp] theorem sweepDocket_wf (d : DocketNo) (s : State) (h : Memory.wf s.xm = true) : Memory.wf (sweepDocket d s).xm = true := by
  unfold sweepDocket; (try dsimp only) <;> (repeat' split) <;> simp +contextual (maxDischargeDepth := 20) [h]

@[simp] theorem sweepDkc_wf  (s : State) (h : Memory.wf s.xm = true) : Memory.wf (sweepDkc s).xm = true := by
  unfold sweepDkc; (try dsimp only) <;> (repeat' split) <;> simp +contextual (maxDischargeDepth := 20) [h]

@[simp] theorem noticeChannel_wf (c : Fin 8) (s : State) (h : Memory.wf s.xm = true) : Memory.wf (noticeChannel c s).xm = true := by
  unfold noticeChannel; (try dsimp only) <;> (repeat' split) <;> simp +contextual (maxDischargeDepth := 20) [h]

@[simp] theorem sweepBlocks_wf  (s : State) (h : Memory.wf s.xm = true) : Memory.wf (sweepBlocks s).xm = true := by
  unfold sweepBlocks; (try dsimp only) <;> (repeat' split) <;> simp +contextual (maxDischargeDepth := 20) [h]

@[simp] theorem rejudgeOvertemp_wf  (s : State) (h : Memory.wf s.xm = true) : Memory.wf (rejudgeOvertemp s).xm = true := by
  unfold rejudgeOvertemp; (try dsimp only) <;> (repeat' split) <;> simp +contextual (maxDischargeDepth := 20) [h]

@[simp] theorem rejudgePot_wf  (s : State) (h : Memory.wf s.xm = true) : Memory.wf (rejudgePot s).xm = true := by
  unfold rejudgePot; (try dsimp only) <;> (repeat' split) <;> simp +contextual (maxDischargeDepth := 20) [h]

@[simp] theorem rejudgeExm_wf  (s : State) (h : Memory.wf s.xm = true) : Memory.wf (rejudgeExm s).xm = true := by
  unfold rejudgeExm; (try dsimp only) <;> (repeat' split) <;> simp +contextual (maxDischargeDepth := 20) [h]

@[simp] theorem sweepNotices_wf  (s : State) (h : Memory.wf s.xm = true) : Memory.wf (sweepNotices s).xm = true := by
  unfold sweepNotices; (try dsimp only) <;> (repeat' split) <;> simp +contextual (maxDischargeDepth := 20) [h]

@[simp] theorem hostReset_wf  (s : State) (h : Memory.wf s.xm = true) : Memory.wf (hostReset s).xm = true := by
  unfold hostReset; (try dsimp only) <;> (repeat' split) <;> simp +contextual (maxDischargeDepth := 20) [h]

@[simp] theorem writeControl_wf (data : Half) (s : State) (h : Memory.wf s.xm = true) : Memory.wf (writeControl data s).xm = true := by
  unfold writeControl; (try dsimp only) <;> (repeat' split) <;> simp +contextual (maxDischargeDepth := 20) [h]

@[simp] theorem writeRegister_wf (r : Register) (en : Enables) (data : Half) (s : State) (h : Memory.wf s.xm = true) : Memory.wf (writeRegister r en data s).xm = true := by
  unfold writeRegister; (try dsimp only) <;> (repeat' split) <;> simp +contextual (maxDischargeDepth := 20) [h]

@[simp] theorem hostStoreByte_wf (b : Nat) (v : Byte) (s : State) (h : Memory.wf s.xm = true) : Memory.wf (hostStoreByte b v s).xm = true := by
  unfold hostStoreByte; (try dsimp only) <;> (repeat' split) <;> simp +contextual (maxDischargeDepth := 20) [h]

@[simp] theorem hostStore_wf (a : Nat) (en : Enables) (data : Half) (s : State) (h : Memory.wf s.xm = true) : Memory.wf (hostStore a en data s).xm = true := by
  unfold hostStore; (try dsimp only) <;> (repeat' split) <;> simp +contextual (maxDischargeDepth := 20) [h]

@[simp] theorem plainWrite_wf (a : Half) (en : Enables) (data : Half) (s : State) (h : Memory.wf s.xm = true) : Memory.wf (plainWrite a en data s).xm = true := by
  unfold plainWrite; (try dsimp only) <;> (repeat' split) <;> simp +contextual (maxDischargeDepth := 20) [h]

@[simp] theorem hostWriteAt_wf (a : Half) (en : Enables) (data : Half) (s : State) (h : Memory.wf s.xm = true) : Memory.wf (hostWriteAt a en data s).xm = true := by
  unfold hostWriteAt; (try dsimp only) <;> (repeat' split) <;> simp +contextual (maxDischargeDepth := 20) [h]

@[simp] theorem acceptAnnounced_wf (d : DocketNo) (s : State) (h : Memory.wf s.xm = true) : Memory.wf (acceptAnnounced d s).xm = true := by
  unfold acceptAnnounced; (try dsimp only) <;> (repeat' split) <;> simp +contextual (maxDischargeDepth := 20) [h]

@[simp] theorem refuseAnnounced_wf (d : DocketNo) (why : DocketRefusal) (s : State) (h : Memory.wf s.xm = true) : Memory.wf (refuseAnnounced d why s).xm = true := by
  unfold refuseAnnounced; (try dsimp only) <;> (repeat' split) <;> simp +contextual (maxDischargeDepth := 20) [h]

@[simp] theorem announce_wf (d : DocketNo) (s : State) (h : Memory.wf s.xm = true) : Memory.wf (announce d s).xm = true := by
  unfold announce; (try dsimp only) <;> (repeat' split) <;> simp +contextual (maxDischargeDepth := 20) [h]

@[simp] theorem freeDocket_wf (d : DocketNo) (s : State) (h : Memory.wf s.xm = true) : Memory.wf (freeDocket d s).xm = true := by
  unfold freeDocket; (try dsimp only) <;> (repeat' split) <;> simp +contextual (maxDischargeDepth := 20) [h]

@[simp] theorem withdrawDocket_wf (d : DocketNo) (s : State) (h : Memory.wf s.xm = true) : Memory.wf (withdrawDocket d s).xm = true := by
  unfold withdrawDocket; (try dsimp only) <;> (repeat' split) <;> simp +contextual (maxDischargeDepth := 20) [h]

@[simp] theorem ruleDocket_wf (d : DocketNo) (v : Byte) (s : State) (h : Memory.wf s.xm = true) : Memory.wf (ruleDocket d v s).xm = true := by
  unfold ruleDocket; (try dsimp only) <;> (repeat' split) <;> simp +contextual (maxDischargeDepth := 20) [h]

@[simp] theorem docketRuling_wf  (s : State) (h : Memory.wf s.xm = true) : Memory.wf (docketRuling s).xm = true := by
  unfold docketRuling; (try dsimp only) <;> (repeat' split) <;> simp +contextual (maxDischargeDepth := 20) [h]

@[simp] theorem handOverRecipe_wf (r : RecipeNo) (s : State) (h : Memory.wf s.xm = true) : Memory.wf (handOverRecipe r s).xm = true := by
  unfold handOverRecipe; (try dsimp only) <;> (repeat' split) <;> simp +contextual (maxDischargeDepth := 20) [h]

@[simp] theorem emptyRecipe_wf (r : RecipeNo) (s : State) (h : Memory.wf s.xm = true) : Memory.wf (emptyRecipe r s).xm = true := by
  unfold emptyRecipe; (try dsimp only) <;> (repeat' split) <;> simp +contextual (maxDischargeDepth := 20) [h]

@[simp] theorem ruleRecipe_wf (r : RecipeNo) (v : Byte) (s : State) (h : Memory.wf s.xm = true) : Memory.wf (ruleRecipe r v s).xm = true := by
  unfold ruleRecipe; (try dsimp only) <;> (repeat' split) <;> simp +contextual (maxDischargeDepth := 20) [h]

@[simp] theorem recipeRuling_wf  (s : State) (h : Memory.wf s.xm = true) : Memory.wf (recipeRuling s).xm = true := by
  unfold recipeRuling; (try dsimp only) <;> (repeat' split) <;> simp +contextual (maxDischargeDepth := 20) [h]

@[simp] theorem takeRequest_wf (c : CellNo) (s : State) (h : Memory.wf s.xm = true) : Memory.wf (takeRequest c s).xm = true := by
  unfold takeRequest; (try dsimp only) <;> (repeat' split) <;> simp +contextual (maxDischargeDepth := 20) [h]

@[simp] theorem dispatch_wf (c : CellNo) (s : State) (h : Memory.wf s.xm = true) : Memory.wf (dispatch c s).xm = true := by
  unfold dispatch; (try dsimp only) <;> (repeat' split) <;> simp +contextual (maxDischargeDepth := 20) [h]

@[simp] theorem ruleCell_wf (c : CellNo) (v : Byte) (s : State) (h : Memory.wf s.xm = true) : Memory.wf (ruleCell c v s).xm = true := by
  unfold ruleCell; (try dsimp only) <;> (repeat' split) <;> simp +contextual (maxDischargeDepth := 20) [h]

@[simp] theorem requestCellRuling_wf  (s : State) (h : Memory.wf s.xm = true) : Memory.wf (requestCellRuling s).xm = true := by
  unfold requestCellRuling; (try dsimp only) <;> (repeat' split) <;> simp +contextual (maxDischargeDepth := 20) [h]

@[simp] theorem refuseRecord_wf (c : CellNo) (off : Nat) (record : Half) (s : State) (h : Memory.wf s.xm = true) : Memory.wf (refuseRecord c off record s).xm = true := by
  unfold refuseRecord; (try dsimp only) <;> (repeat' split) <;> simp +contextual (maxDischargeDepth := 20) [h]

@[simp] theorem refuseSafe_wf (c : CellNo) (s : State) (h : Memory.wf s.xm = true) : Memory.wf (refuseSafe c s).xm = true := by
  unfold refuseSafe; (try dsimp only) <;> (repeat' split) <;> simp +contextual (maxDischargeDepth := 20) [h]

@[simp] theorem levelStart_wf  (s : State) (h : Memory.wf s.xm = true) : Memory.wf (levelStart s).xm = true := by
  unfold levelStart; (try dsimp only) <;> (repeat' split) <;> simp +contextual (maxDischargeDepth := 20) [h]

@[simp] theorem acceptStart_wf (c : CellNo) (s : State) (h : Memory.wf s.xm = true) : Memory.wf (acceptStart c s).xm = true := by
  unfold acceptStart; (try dsimp only) <;> (repeat' split) <;> simp +contextual (maxDischargeDepth := 20) [h]

@[simp] theorem startRuling_wf (c : CellNo) (s : State) (h : Memory.wf s.xm = true) : Memory.wf (startRuling c s).xm = true := by
  unfold startRuling; (try dsimp only) <;> (repeat' split) <;> simp +contextual (maxDischargeDepth := 20) [h]

@[simp] theorem produceRuling_wf (c : CellNo) (s : State) (h : Memory.wf s.xm = true) : Memory.wf (produceRuling c s).xm = true := by
  unfold produceRuling; (try dsimp only) <;> (repeat' split) <;> simp +contextual (maxDischargeDepth := 20) [h]

@[simp] theorem finishRuling_wf (c : CellNo) (s : State) (h : Memory.wf s.xm = true) : Memory.wf (finishRuling c s).xm = true := by
  unfold finishRuling; (try dsimp only) <;> (repeat' split) <;> simp +contextual (maxDischargeDepth := 20) [h]

@[simp] theorem safeEnterRuling_wf (c : CellNo) (s : State) (h : Memory.wf s.xm = true) : Memory.wf (safeEnterRuling c s).xm = true := by
  unfold safeEnterRuling; (try dsimp only) <;> (repeat' split) <;> simp +contextual (maxDischargeDepth := 20) [h]

@[simp] theorem safeLeaveRuling_wf (c : CellNo) (s : State) (h : Memory.wf s.xm = true) : Memory.wf (safeLeaveRuling c s).xm = true := by
  unfold safeLeaveRuling; (try dsimp only) <;> (repeat' split) <;> simp +contextual (maxDischargeDepth := 20) [h]

@[simp] theorem reconfigureRuling_wf (c : CellNo) (s : State) (h : Memory.wf s.xm = true) : Memory.wf (reconfigureRuling c s).xm = true := by
  unfold reconfigureRuling; (try dsimp only) <;> (repeat' split) <;> simp +contextual (maxDischargeDepth := 20) [h]

@[simp] theorem refuseSelect_wf (c : CellNo) (r : RequestResult) (reply0 : Half) (s : State) (h : Memory.wf s.xm = true) : Memory.wf (refuseSelect c r reply0 s).xm = true := by
  unfold refuseSelect; (try dsimp only) <;> (repeat' split) <;> simp +contextual (maxDischargeDepth := 20) [h]

@[simp] theorem enterDrain_wf (c : CellNo) (n : Nat) (s : State) (h : Memory.wf s.xm = true) : Memory.wf (enterDrain c n s).xm = true := by
  unfold enterDrain; (try dsimp only) <;> (repeat' split) <;> simp +contextual (maxDischargeDepth := 20) [h]

@[simp] theorem selectJudged_wf (c : CellNo) (n : Nat) (s : State) (h : Memory.wf s.xm = true) : Memory.wf (selectJudged c n s).xm = true := by
  unfold selectJudged; (try dsimp only) <;> (repeat' split) <;> simp +contextual (maxDischargeDepth := 20) [h]

@[simp] theorem selectRuling_wf (c : CellNo) (s : State) (h : Memory.wf s.xm = true) : Memory.wf (selectRuling c s).xm = true := by
  unfold selectRuling; (try dsimp only) <;> (repeat' split) <;> simp +contextual (maxDischargeDepth := 20) [h]

@[simp] theorem acknowledgeAll_wf (l : List Alarm) (s : State) (h : Memory.wf s.xm = true) : Memory.wf (acknowledgeAll l s).xm = true := by
  unfold acknowledgeAll; (try dsimp only) <;> (repeat' split) <;> simp +contextual (maxDischargeDepth := 20) [h]

@[simp] theorem ackRuling_wf (c : CellNo) (s : State) (h : Memory.wf s.xm = true) : Memory.wf (ackRuling c s).xm = true := by
  unfold ackRuling; (try dsimp only) <;> (repeat' split) <;> simp +contextual (maxDischargeDepth := 20) [h]

@[simp] theorem measureRuling_wf (c : CellNo) (s : State) (h : Memory.wf s.xm = true) : Memory.wf (measureRuling c s).xm = true := by
  unfold measureRuling; (try dsimp only) <;> (repeat' split) <;> simp +contextual (maxDischargeDepth := 20) [h]

@[simp] theorem refusePurge_wf (c : CellNo) (r : RequestResult) (reply6 : Half) (s : State) (h : Memory.wf s.xm = true) : Memory.wf (refusePurge c r reply6 s).xm = true := by
  unfold refusePurge; (try dsimp only) <;> (repeat' split) <;> simp +contextual (maxDischargeDepth := 20) [h]

@[simp] theorem purgeRuling_wf (c : CellNo) (s : State) (h : Memory.wf s.xm = true) : Memory.wf (purgeRuling c s).xm = true := by
  unfold purgeRuling; (try dsimp only) <;> (repeat' split) <;> simp +contextual (maxDischargeDepth := 20) [h]

@[simp] theorem calibrateRuling_wf (c : CellNo) (s : State) (h : Memory.wf s.xm = true) : Memory.wf (calibrateRuling c s).xm = true := by
  unfold calibrateRuling; (try dsimp only) <;> (repeat' split) <;> simp +contextual (maxDischargeDepth := 20) [h]

@[simp] theorem feedAtOnce_wf (c : CellNo) (cause : Half) (s : State) (h : Memory.wf s.xm = true) : Memory.wf (feedAtOnce c cause s).xm = true := by
  unfold feedAtOnce; (try dsimp only) <;> (repeat' split) <;> simp +contextual (maxDischargeDepth := 20) [h]

@[simp] theorem feedTaken_wf (c : CellNo) (duration : Nat) (s : State) (h : Memory.wf s.xm = true) : Memory.wf (feedTaken c duration s).xm = true := by
  unfold feedTaken; (try dsimp only) <;> (repeat' split) <;> simp +contextual (maxDischargeDepth := 20) [h]

@[simp] theorem feedRuling_wf (c : CellNo) (s : State) (h : Memory.wf s.xm = true) : Memory.wf (feedRuling c s).xm = true := by
  unfold feedRuling; (try dsimp only) <;> (repeat' split) <;> simp +contextual (maxDischargeDepth := 20) [h]

@[simp] theorem cancelUnruled_wf (t : CellNo) (r : Request) (s : State) (h : Memory.wf s.xm = true) : Memory.wf (cancelUnruled t r s).xm = true := by
  unfold cancelUnruled; (try dsimp only) <;> (repeat' split) <;> simp +contextual (maxDischargeDepth := 20) [h]

@[simp] theorem cancelPurge_wf  (s : State) (h : Memory.wf s.xm = true) : Memory.wf (cancelPurge s).xm = true := by
  unfold cancelPurge; (try dsimp only) <;> (repeat' split) <;> simp +contextual (maxDischargeDepth := 20) [h]

@[simp] theorem cancelMeasure_wf  (s : State) (h : Memory.wf s.xm = true) : Memory.wf (cancelMeasure s).xm = true := by
  unfold cancelMeasure; (try dsimp only) <;> (repeat' split) <;> simp +contextual (maxDischargeDepth := 20) [h]

@[simp] theorem cancelRunning_wf (r : Request) (s : State) (h : Memory.wf s.xm = true) : Memory.wf (cancelRunning r s).xm = true := by
  unfold cancelRunning; (try dsimp only) <;> (repeat' split) <;> simp +contextual (maxDischargeDepth := 20) [h]

@[simp] theorem cancelTarget_wf (t : CellNo) (r : Request) (s : State) (h : Memory.wf s.xm = true) : Memory.wf (cancelTarget t r s).xm = true := by
  unfold cancelTarget; (try dsimp only) <;> (repeat' split) <;> simp +contextual (maxDischargeDepth := 20) [h]

@[simp] theorem readTargetCode_wf (t : CellNo) (s : State) (h : Memory.wf s.xm = true) : Memory.wf (readTargetCode t s).xm = true := by
  unfold readTargetCode; (try dsimp only) <;> (repeat' split) <;> simp +contextual (maxDischargeDepth := 20) [h]

@[simp] theorem cancelCell_wf (c : CellNo) (t : CellNo) (s : State) (h : Memory.wf s.xm = true) : Memory.wf (cancelCell c t s).xm = true := by
  unfold cancelCell; (try dsimp only) <;> (repeat' split) <;> simp +contextual (maxDischargeDepth := 20) [h]

@[simp] theorem cancelRuling_wf (c : CellNo) (s : State) (h : Memory.wf s.xm = true) : Memory.wf (cancelRuling c s).xm = true := by
  unfold cancelRuling; (try dsimp only) <;> (repeat' split) <;> simp +contextual (maxDischargeDepth := 20) [h]

@[simp] theorem chainFlip_wf  (s : State) (h : Memory.wf s.xm = true) : Memory.wf (chainFlip s).xm = true := by
  unfold chainFlip; (try dsimp only) <;> (repeat' split) <;> simp +contextual (maxDischargeDepth := 20) [h]

@[simp] theorem chainDebounce_wf  (s : State) (h : Memory.wf s.xm = true) : Memory.wf (chainDebounce s).xm = true := by
  unfold chainDebounce; (try dsimp only) <;> (repeat' split) <;> simp +contextual (maxDischargeDepth := 20) [h]

@[simp] theorem pressureDebounce_wf  (s : State) (h : Memory.wf s.xm = true) : Memory.wf (pressureDebounce s).xm = true := by
  unfold pressureDebounce; (try dsimp only) <;> (repeat' split) <;> simp +contextual (maxDischargeDepth := 20) [h]

@[simp] theorem tankDebounce_wf  (s : State) (h : Memory.wf s.xm = true) : Memory.wf (tankDebounce s).xm = true := by
  unfold tankDebounce; (try dsimp only) <;> (repeat' split) <;> simp +contextual (maxDischargeDepth := 20) [h]

@[simp] theorem conveyorStall_wf  (s : State) (h : Memory.wf s.xm = true) : Memory.wf (conveyorStall s).xm = true := by
  unfold conveyorStall; (try dsimp only) <;> (repeat' split) <;> simp +contextual (maxDischargeDepth := 20) [h]

@[simp] theorem graceExpiry_wf  (s : State) (h : Memory.wf s.xm = true) : Memory.wf (graceExpiry s).xm = true := by
  unfold graceExpiry; (try dsimp only) <;> (repeat' split) <;> simp +contextual (maxDischargeDepth := 20) [h]

@[simp] theorem forceNoEdge_wf (src : Source) (s : State) (h : Memory.wf s.xm = true) : Memory.wf (forceNoEdge src s).xm = true := by
  unfold forceNoEdge; (try dsimp only) <;> (repeat' split) <;> simp +contextual (maxDischargeDepth := 20) [h]

@[simp] theorem forceOver_wf (src : Source) (s : State) (h : Memory.wf s.xm = true) : Memory.wf (forceOver src s).xm = true := by
  unfold forceOver; (try dsimp only) <;> (repeat' split) <;> simp +contextual (maxDischargeDepth := 20) [h]

end Sys2Proof.Machine
end

