-- ==== Sys2Proof/Laws/Records.lean ====
section
/-! SUPPORT. Reading a record after the part has written it: bytes, halfwords, request cells, dockets and recipes. -/

namespace Sys2Proof.Machine

/-! ### Addresses -/

theorem stores_of_range {a : Nat} (lo : 0x300 ≤ a) (hi : a < 0x4000) : Xm.stores a = true := by simp [Xm.stores, lo, hi]

theorem stores_cell (c : CellNo) {i : Nat} (h : i < 32) : Xm.stores (cellBase c + i) = true :=
  stores_of_range (by unfold cellBase; omega) (by unfold cellBase; omega)

theorem stores_cellBase (c : CellNo) : Xm.stores (cellBase c) = true := stores_cell c (i := 0) (by omega)

theorem stores_docket (d : DocketNo) {i : Nat} (h : i < 128) : Xm.stores (docketBase d + i) = true :=
  stores_of_range (by unfold docketBase; omega) (by unfold docketBase; omega)

theorem stores_docketBase (d : DocketNo) : Xm.stores (docketBase d) = true := stores_docket d (i := 0) (by omega)

theorem stores_recipe (r : RecipeNo) {i : Nat} (h : i < 128) : Xm.stores (recipeBase r + i) = true :=
  stores_of_range (by unfold recipeBase; omega) (by unfold recipeBase; omega)

theorem stores_recipeBase (r : RecipeNo) : Xm.stores (recipeBase r) = true := stores_recipe r (i := 0) (by omega)

/-! ### Halves and words -/

theorem append_extractLsb' {m n : Nat} (w : BitVec (m + n)) : w.extractLsb' n m ++ w.extractLsb' 0 n = w := by
  ext i hi
  simp only [BitVec.getElem_append, BitVec.getElem_extractLsb']
  split <;> simp_all [BitVec.getLsbD_eq_getElem]

@[simp] theorem joinHalf_bytes (h : Half) : joinHalf (loByte h) (hiByte h) = h := append_extractLsb' (m := 8) (n := 8) h

@[simp] theorem join_halves (w : Word) : hiHalf w ++ loHalf w = w := append_extractLsb' (m := 16) (n := 16) w

/-! ### Bytes -/

/-- A byte after a byte was written. -/
theorem byteAt_putByte (a b : Nat) (v : Byte) (s : State) :
    (putByte a v s).byteAt b = if b = a ∧ Xm.stores a = true then v else s.byteAt b := Xm.byte_setByte s.xm a b v false

@[simp] theorem byteAt_putByte_same (a : Nat) (v : Byte) (s : State) (h : Xm.stores a = true) :
    (putByte a v s).byteAt a = v := by simp [byteAt_putByte, h]

theorem byteAt_putByte_other {a b : Nat} (v : Byte) (s : State) (h : b ≠ a) : (putByte a v s).byteAt b = s.byteAt b := by
  simp [byteAt_putByte, h]

/-- A byte after a halfword was written. -/
theorem byteAt_putHalf (a b : Nat) (v : Half) (s : State) :
    (putHalf a v s).byteAt b =
      if b = a + 1 ∧ Xm.stores (a + 1) = true then hiByte v
      else if b = a ∧ Xm.stores a = true then loByte v else s.byteAt b := by
  unfold putHalf; rw [byteAt_putByte, byteAt_putByte]

theorem byteAt_putHalf_other {a b : Nat} (v : Half) (s : State) (h : b < a ∨ a + 2 ≤ b) :
    (putHalf a v s).byteAt b = s.byteAt b := by
  rw [byteAt_putHalf, if_neg (by omega), if_neg (by omega)]

/-- A byte after a word was written. -/
theorem byteAt_putWord_other {a b : Nat} (v : Word) (s : State) (h : b < a ∨ a + 4 ≤ b) :
    (putWord a v s).byteAt b = s.byteAt b := by
  unfold putWord
  rw [byteAt_putHalf_other _ _ (by omega), byteAt_putHalf_other _ _ (by omega)]

/-- A byte after a run of bytes was filled. -/
theorem byteAt_fillBytes (a n b : Nat) (v : Byte) (s : State) :
    (fillBytes a v n s).byteAt b = if a ≤ b ∧ b < a + n ∧ Xm.stores b = true then v else s.byteAt b := by
  induction n generalizing a s with
  | zero => unfold fillBytes; rw [if_neg (by omega)]
  | succ n ih =>
    unfold fillBytes
    rw [ih, byteAt_putByte]
    by_cases h1 : b = a
    · subst h1
      by_cases h2 : Xm.stores b = true
      · simp [h2]
      · simp [h2]
    · by_cases h2 : a + 1 ≤ b ∧ b < a + 1 + n ∧ Xm.stores b = true
      · rw [if_pos h2, if_pos (by refine ⟨by omega, by omega, h2.2.2⟩)]
      · rw [if_neg h2, if_neg (by simp [h1]), if_neg]
        rintro ⟨h3, h4, h5⟩
        exact h2 ⟨by omega, by omega, h5⟩

/-! ### Halfwords -/

@[simp] theorem halfAt_putHalf_same (a : Nat) (v : Half) (s : State) (h : Xm.stores a = true)
    (h' : Xm.stores (a + 1) = true) : (putHalf a v s).halfAt a = v := by
  unfold State.halfAt
  rw [byteAt_putHalf, byteAt_putHalf]
  simp [h, h']

theorem halfAt_putByte_other {a b : Nat} (v : Byte) (s : State) (h : b ≠ a) (h' : b + 1 ≠ a) :
    (putByte a v s).halfAt b = s.halfAt b := by
  unfold State.halfAt; rw [byteAt_putByte_other _ _ h, byteAt_putByte_other _ _ h']

theorem halfAt_putHalf_other {a b : Nat} (v : Half) (s : State) (h : b + 1 < a ∨ a + 2 ≤ b) :
    (putHalf a v s).halfAt b = s.halfAt b := by
  unfold State.halfAt; rw [byteAt_putHalf_other _ _ (by omega), byteAt_putHalf_other _ _ (by omega)]

/-! ### What the other small operations leave of exchange memory -/

/-- Reading depends on exchange memory alone. -/
theorem byteAt_of_xm {s t : State} (h : t.xm = s.xm) (a : Nat) : t.byteAt a = s.byteAt a := by
  unfold State.byteAt; rw [h]

@[simp] theorem byteAt_setAttn (c : AttnClass) (s : State) (a : Nat) : (setAttn c s).byteAt a = s.byteAt a := rfl

@[simp] theorem byteAt_offerParity (b : Nat) (s : State) (a : Nat) : (offerParity b s).byteAt a = s.byteAt a :=
  byteAt_of_xm (by simp) a

@[simp] theorem byteAt_readChecked (l : List Nat) (s : State) (a : Nat) : (readChecked l s).byteAt a = s.byteAt a :=
  byteAt_of_xm (by simp) a

@[simp] theorem byteAt_readArgs (c : CellNo) (n : Nat) (s : State) (a : Nat) : (readArgs c n s).byteAt a = s.byteAt a :=
  byteAt_of_xm (by simp) a

@[simp] theorem byteAt_offerRefusal (x d : Half) (r : RefusalReason) (s : State) (a : Nat) :
    (offerRefusal x d r s).byteAt a = s.byteAt a := byteAt_of_xm (by simp) a

@[simp] theorem byteAt_slotRuled (b : Bool) (s : State) (a : Nat) : (slotRuled b s).byteAt a = s.byteAt a :=
  byteAt_of_xm (by simp) a

@[simp] theorem byteAt_takeHanded (c : CellNo) (s : State) (a : Nat) : (takeHanded c s).byteAt a = s.byteAt a := rfl

/-! ### Request cells -/

/-- A cell after its request has ended: DONE, the result, and every other byte as before. -/
theorem byteAt_endCell (c : CellNo) (r : RequestResult) (s : State) (a : Nat) :
    (endCell c r s).byteAt a =
      if a = cellBase c then cellDone else if a = cellBase c + 1 then r.code else s.byteAt a := by
  unfold endCell
  rw [byteAt_setAttn, byteAt_putByte, byteAt_putByte]
  simp [stores_cellBase, stores_cell]

@[simp] theorem endCell_request (c : CellNo) (r : RequestResult) (s : State) :
    (endCell c r s).hpx.attn.getLsbD 1 = true := by
  unfold endCell setAttn; simp [AttnClass.bit]

/-- A reply after it was written. -/
@[simp] theorem halfAt_putReply_same (c : CellNo) (j : Nat) (v : Half) (s : State) (h : j < 8) :
    (putReply c j v s).halfAt (cellBase c + 16 + 2 * j) = v := by
  have h0 := stores_cell c (i := 16 + 2 * j) (by omega)
  have h1 := stores_cell c (i := 16 + 2 * j + 1) (by omega)
  rw [← Nat.add_assoc] at h0
  rw [← Nat.add_assoc, ← Nat.add_assoc] at h1
  exact halfAt_putHalf_same _ v s h0 h1

theorem byteAt_putReply_other {c : CellNo} {j a : Nat} (v : Half) (s : State)
    (h : a < cellBase c + 16 + 2 * j ∨ cellBase c + 18 + 2 * j ≤ a) : (putReply c j v s).byteAt a = s.byteAt a :=
  byteAt_putHalf_other v s (by omega)

/-- Reply 0 of a changeover after the part has written the active profile index there (R30). -/
@[simp] theorem halfAt_replyActive (c : CellNo) (s : State) :
    (replyActive c s).halfAt (cellBase c + 16) = s.amc.activeProfile.zeroExtend 16 :=
  halfAt_putReply_same c 0 _ s (by decide)

theorem byteAt_replyActive_other {c : CellNo} {a : Nat} (s : State) (h : a < cellBase c + 16 ∨ cellBase c + 18 ≤ a) :
    (replyActive c s).byteAt a = s.byteAt a := byteAt_putReply_other _ s (by omega)

/-! ### Dockets -/

@[simp] theorem byteAt_leaveArrival (d : DocketNo) (s : State) (a : Nat) : (leaveArrival d s).byteAt a = s.byteAt a := rfl

@[simp] theorem byteAt_nameEntry (board : Word) (d : DocketNo) (s : State) (a : Nat) :
    (nameEntry board d s).byteAt a = s.byteAt a := rfl

/-- A docket refused in a search has left the arrival list, and nobody else has (R48). -/
@[simp] theorem arrival_refuseInSearch (d : DocketNo) (b : Nat) (s : State) :
    (refuseInSearch d b s).dkc.arrival = s.dkc.arrival.filter fun x => x != d := by
  simp [refuseInSearch, leaveArrival]

/-- A docket that takes a board has left the arrival list, and nobody else has (R50). -/
@[simp] theorem arrival_matchWrites (e : MapEntry) (d : DocketNo) (unverified : Bool) (s : State) :
    (matchWrites e d unverified s).dkc.arrival = s.dkc.arrival.filter fun x => x != d := by
  unfold matchWrites
  split <;> cases unverified <;> simp [leaveArrival, nameEntry]

/-- A reason added is in the set. -/
theorem reasons_putReason (d : DocketNo) (r : Reason) (s : State) : (putReason d r s).reasons d = s.reasons d ||| r.bit :=
  halfAt_putHalf_same _ _ s (stores_docket d (by omega)) (stores_docket d (i := 37) (by omega))

end Sys2Proof.Machine
end

