-- ==== Sys2Proof/Tests/Slice0.lean ====
section
/-! SUPPORT. The model's own tests: the well-formedness checks refuse an ill-formed command each, the commands have
their effects on small states, and every hypothesis of the obligations is met by a state. -/

namespace Sys2Proof.Tests

open Sys2Proof Sys2Proof.Machine Sys2Proof.Says

/-! ### Small states -/

/-- The state after a command. -/
def after (c : Instr) (s : State) : State :=
  match exec c s with
  | .next t => t
  | .fault f => nomatch f
  | .refused _ => s

/-- Both bytes enabled. -/
def both : Enables := { lo := true, hi := true }

/-- The low byte enabled. -/
def low : Enables := { lo := true, hi := false }

/-- The part in normal work after initialisation. -/
def running : State := { State.reset with hpx.phase := .running }

/-- Bytes placed in exchange memory. -/
def bytes (l : List (Nat × Byte)) (s : State) : State := l.foldl (fun s p => putByte p.1 p.2 s) s

/-- The listed bytes of a record whose halfwords are given in rising order. -/
def cellsOf (base : Nat) (l : List (Nat × Nat)) : List Host.Cell :=
  (l.flatMap fun p => [(base + p.1, BitVec.ofNat 8 p.2), (base + p.1 + 1, BitVec.ofNat 8 (p.2 / 256))]).filter
    fun c => c.2 != 0

/-- A byte made bad. -/
def spoil (a : Nat) (s : State) : State := { s with xm := s.xm.setByte a (s.byteAt a) true }

/-- The part in a mode. -/
def inMode (m : Mode) (s : State) : State := { s with amc.mode := m }

/-- The part at a millisecond tick. -/
def at_ (n : Nat) (s : State) : State := { s with amc.ticks := n }

/-- A request handed to its owner in cell 0. -/
def handed (r : Request) (args : List Nat) (s : State) : State :=
  let s := bytes [(0x300, cellTaken), (0x302, r.code)] s
  let s := args.zipIdx.foldl (fun s p => putHalf (0x304 + 2 * p.2) (BitVec.ofNat 16 p.1) s) s
  { s with hpx.handed := [0] }

/-- A latched watched write of a state byte. -/
def latched (a : Half) (v : Half) (s : State) : State :=
  { s with hpx.slot := some { addr := a, en := low, data := v, progress := .latched } }

/-- An alarm's entry put in a state. -/
def alarmIn (a : Alarm) (st : AlarmState) (s : State) : State :=
  { s with amc.alarms := s.amc.alarms.set a.id { s.alarm a with state := st } }

/-- A machine description in every range of R32, in geometry order. -/
def geometryFields : List (Nat × Nat) :=
  [(0, 50), (2, 50), (4, 300), (6, 500), (8, 100), (10, 100), (12, 100), (14, 100), (16, 100), (18, 100), (20, 1100),
    (22, 1200), (24, 50), (26, 1300), (28, 50), (30, 1450), (32, 40), (34, 2), (36, 3000), (38, 5000), (40, 1)]

/-- The rest of the machine description. -/
def settingFields : List (Nat × Nat) :=
  [(44, 0x0404), (46, 2), (48, 500), (50, 300), (52, 0x1110), (54, 100), (56, 50), (58, 200), (60, 300), (62, 10),
    (64, 10), (66, 10), (68, 60), (70, 50), (72, 583), (74, 100), (76, 65506), (78, 65526), (82, 20), (84, 10), (86, 1)]

/-- A line profile with every zone disabled. -/
def profileFields : List (Nat × Nat) :=
  [(36, 5), (38, 2500), (40, 10 + 20 * 256), (42, 150 + 50 * 256), (44, 2000), (46, 5), (48, 90 + 60 * 256),
    (50, 120 + 60 * 256), (52, 3000), (54, 50), (56, 100), (58, 1000), (60, 600)]

/-- The part with the description and line profiles 1 and 2 stored. -/
def stored : State :=
  { running with
      xm.cells := cellsOf 0x400 geometryFields ++ cellsOf 0x400 settingFields ++ cellsOf 0x540 profileFields ++
        cellsOf 0x580 profileFields }

/-- The description of `stored`. -/
def desc : Description := storedDescription stored

/-- The line profile of `stored`. -/
def prof : Profile := storedProfile stored 1

/-- The part in STANDBY at a tick, with the description and the profile in force. -/
def started (n : Nat) : State :=
  { stored with amc.ticks := n, amc.mode := .standby, amc.inForce := some desc, amc.profile := some prof,
                amc.activeProfile := 1 }

/-- A map entry of a board. -/
def entry (docket : Option DocketNo) (tLead : Word) : MapEntry :=
  { docket := docket, tLead := tLead, tTrail := none, entryTime := 0, held := false, progress := .entered }

/-- A counting claim of a block. -/
def counting (src : Source) (m : CountMode) (who : Claimant) (since count : Nat) : CountUnit :=
  { claim := blockClaim src m who, counting := true, armed := since, openedAt := since, count := count }

/-- Unit 0 carries a claim. -/
def withUnit (c : CountUnit) (s : State) : State := putUnit 0 (some c) s

/-- Lean waits here for the kernel, so that few tests wait for it at once (each holds a thread). -/
def checkpoint1 : Fin 2 := ⟨1, by decide +kernel⟩

/-! ### Well-formedness: every check refuses an ill-formed command -/

theorem test_wf_accepts :
    Instr.wf (.hostRead 0x600 both) = true ∧ Instr.wf (.hostWrite 0x602 both 0) = true ∧
      Instr.wf (.watchedWrite 0x300 low 1) = true ∧ Instr.wf (.watchedWrite 0x2580 both 0) = true ∧
      Instr.wf (.controlReset low 3) = true ∧ Instr.wf (.parityInvert low 2) = true ∧
      Instr.wf (.mmTick true false [.gap, .entryEye, .exitEye, .stages, .exitStages] .pulseFirst) = true ∧
      Instr.wf (.spanFallingEdge .echo 25000) = true := by decide

theorem test_wf_refuses_an_odd_address :
    Instr.wf (.hostRead 0x601 both) = false ∧ Instr.wf (.hostWrite 0x603 both 0) = false := by decide

theorem test_wf_refuses_a_register_as_a_plain_write : Instr.wf (.hostWrite 0xFF04 both 0) = false := by decide

theorem test_wf_refuses_a_state_byte_as_a_plain_write :
    Instr.wf (.hostWrite 0xE80 low 1) = false ∧ Instr.wf (.hostWrite 0xE80 { lo := false, hi := true } 1) = true := by decide

theorem test_wf_refuses_a_watched_write_elsewhere :
    Instr.wf (.watchedWrite 0x302 low 1) = false ∧ Instr.wf (.watchedWrite 0x2600 low 1) = false := by decide

theorem test_wf_refuses_a_watched_write_without_its_state_byte :
    Instr.wf (.watchedWrite 0x300 { lo := false, hi := true } 1) = false := by decide

theorem test_wf_refuses_a_reset_that_writes_0 :
    Instr.wf (.controlReset low 2) = false ∧ Instr.wf (.controlReset { lo := false, hi := true } 1) = false := by decide

theorem test_wf_refuses_a_parity_write_that_resets : Instr.wf (.parityInvert low 1) = false := by decide

theorem test_wf_refuses_a_tick_order_with_a_phase_twice :
    Instr.wf (.mmTick true false [.gap, .gap, .exitEye, .stages, .exitStages] .pulseFirst) = false ∧
      Instr.wf (.mmTick true false [.gap, .entryEye, .exitEye, .stages] .pulseFirst) = false := by decide

theorem test_wf_refuses_an_edge_past_the_count : Instr.wf (.spanFallingEdge .echo 25001) = false := by decide

theorem test_no_word_spells_a_command :
    decodeTableWord 16 0x1234 = none ∧ State.reset.withFetchWord 16 0x1234 = State.reset := by decide

/-- Lean waits here for the kernel, so that few tests wait for it at once (each holds a thread). -/
def checkpoint2 : Fin 3 := ⟨2, by decide +kernel⟩

/-! ### The watched words name the records (section 1.2) -/

theorem test_watched_words_name_cells : ∀ c : CellNo, watchedAt (cellBase c) = some (.cell c) := by decide

theorem test_watched_words_name_recipes : ∀ r : RecipeNo, watchedAt (recipeBase r) = some (.recipe r) := by decide

theorem test_watched_words_name_dockets : ∀ d : DocketNo, watchedAt (docketBase d) = some (.docket d) := by decide

/-- Lean waits here for the kernel, so that few tests wait for it at once (each holds a thread). -/
def checkpoint3 : Fin 4 := ⟨3, by decide +kernel⟩

/-! ### The hypotheses of the obligations are met: the queue, the resets and the port -/

theorem test_step_takes_the_front :
    step { running with pending := [.upOfferChange true, .powerOn] } =
        exec (.upOfferChange true) { running with pending := [.powerOn] } ∧
      step running = .next running := ⟨rfl, rfl⟩

theorem test_power_on_keeps_the_queue :
    after .powerOn { started 9 with pending := [.encoderPulse] } = { State.reset with pending := [.encoderPulse] } := by
  decide +kernel

theorem test_ends_of_the_resets :
    State.reset.hpx.phase = .initialising ∧ (after .powerOnInitEnd State.reset).hpx.attn = 0x08 ∧
      (after .hostResetSweepEnd (after (.controlReset low 1) (started 9))).hpx.phase = .running := by decide +kernel

theorem test_accesses_without_effect :
    hostAccess (.hostRead 0x600 both) = true ∧ State.reset.hpx.phase ≠ .running ∧ running.hpx.phase = .running := by
  decide

theorem test_host_read_of_good_and_bad_bytes :
    (∀ b ∈ enabledBytes 0x3FFE both, running.xmBad b = false) ∧ anyByte both ∧
      (enabledBytes 0x300 both).find? (spoil 0x301 running).xmBad = some 0x301 ∧
      (after (.hostRead 0x300 both) (spoil 0x301 running)).hpx.parityAddr = 0x301 := by
  refine ⟨?_, Or.inl rfl, ?_, ?_⟩ <;> decide +kernel

theorem test_host_read_of_ident_and_of_nothing :
    (after (.hostRead 0xFF00 both) running).hpx.answer = some { term := .ready, data := some 0x4610 } ∧
      Instr.evenAddr 0x4000 = true ∧ Instr.isRegister 0x4000 = false ∧ Instr.evenAddr 0xFEFE = true ∧
      Instr.isRegister 0xFEFE = false ∧
      (after (.hostRead 0x4000 both) running).hpx.answer = some { term := .fault, data := some 0 } := by decide +kernel

theorem test_host_write_stores :
    Instr.wf (.hostWrite 0x456 both 0x0201) = true ∧ writeRefusal running 0x456 both = .none ∧
      (after (.hostWrite 0x456 both 0x0201) running).amc.activeProfile = 1 ∧
      (after (.hostWrite 0x456 both 0x0201) running).byteAt 0x457 = 2 ∧
      Instr.wf (.hostWrite 0x3FFE low 7) = true ∧ writeRefusal running 0x3FFE low = .none := by decide +kernel

theorem test_host_write_refused :
    Instr.wf (.hostWrite 0x2FE both 1) = true ∧ writeRefusal running 0x2FE both = .protectedBytes ∧
      Instr.wf (.hostWrite 0x4000 both 1) = true ∧ (0x4000 ≤ (0x4000 : Half).toNat) ∧
      (after (.hostWrite 0x4000 both 1) running).hpx.refusal = ⟨0x4000, 1, .unmapped⟩ := by decide +kernel

theorem test_refusal_reasons_at_the_region_bounds :
    writeRefusal running 0x2FE both = .protectedBytes ∧ writeRefusal running 0x400 both = .none ∧
      writeRefusal (started 0) 0x4FE both = .notConfig ∧ writeRefusal (started 0) 0x540 both = .profileInUse ∧
      writeRefusal (started 0) 0x500 both = .none ∧ writeRefusal (started 0) 0x5FE both = .none ∧
      writeRefusal (started 0) 0x2600 both = .none ∧
      [0x2FE, 0x400, 0x4FE, 0x500, 0x5FE, 0x2600, 0x3FFE].all (fun a => Instr.wf (.hostWrite a both 0)) = true := by
  decide +kernel

theorem test_watched_write_cases :
    Instr.wf (.watchedWrite 0x300 low 1) = true ∧ running.hpx.slot = none ∧ running.hpx.refusal.reason = .none ∧
      (after (.watchedWrite 0x300 low 1) (latched 0x300 1 running)).hpx.slot = (latched 0x300 1 running).hpx.slot ∧
      (after (.watchedWrite 0x300 low 1) (after .requestCellRuling (latched 0x300 1 running))).hpx.answer =
        some { term := .ready, data := none } ∧
      (after (.watchedWrite 0x320 low 1) (latched 0x300 1 running)).hpx.answer =
        some { term := .retry, data := none } := by decide +kernel

theorem test_occupied_record_shuts_the_slot :
    let s := { running with hpx.refusal := ⟨0x300, 1, .locked⟩ }
    s.hpx.refusal.reason ≠ .none ∧
      (after (.watchedWrite 0xE00 both 1) s).hpx.answer = some { term := .fault, data := none } ∧
      (after (.refusalReasonWrite low 0) s).hpx.refusal = ⟨0, 0, .none⟩ := by decide +kernel

theorem test_register_writes :
    (after (.attnWrite low 0x08) (after .powerOnInitEnd State.reset)).hpx.attn = 0 ∧
      (after (.attnMaskWrite low 0x3F) running).hpx.attnMask = 0x3F ∧
      (after (.parityAddrWrite low 0) { running with hpx.parityAddr := 5 }).hpx.parityAddr = 0xFFFF ∧
      Instr.wf (.parityInvert low 2) = true ∧ (after (.parityInvert low 2) running).hpx.parityInvert = true ∧
      (after (.registerWriteDiscarded .ident both 7) running).hpx.answer = some { term := .ready, data := none } := by
  decide +kernel

theorem test_control_reset_sweeps :
    Instr.wf (.controlReset low 1) = true ∧
      (after (.controlReset low 1) (bytes [(0xE00, docketOnLine), (0xE80, docketAnnounced), (0x602, 2)] (started 9))).docketState
        0 = docketDone ∧
      (after (.controlReset low 1) (bytes [(0x300, cellTaken)] (started 9))).byteAt 0x301 = 9 := by decide +kernel

/-- A slot ruled at tick 5. -/
def ruledSlot : State :=
  { running with hpx.slot := some { addr := 0x300, en := low, data := 1, progress := .ruled true 5 } }

theorem test_ruled_slot_expires :
    (after .pendingSlotExpiry (at_ 6 ruledSlot)).hpx.slot = ruledSlot.hpx.slot ∧
      (after .pendingSlotExpiry (at_ 7 ruledSlot)).hpx.slot = none ∧
      (after .pendingSlotExpiry (latched 0x300 1 (at_ 7 running))).hpx.slot = (latched 0x300 1 running).hpx.slot := by
  decide +kernel

/-- Lean waits here for the kernel, so that few tests wait for it at once (each holds a thread). -/
def checkpoint4 : Fin 5 := ⟨4, by decide +kernel⟩

/-! ### The rulings -/

/-- Docket 0 is FREE, names recipe 0 and has the ID `AB`; recipe 0 is READY. -/
def announcing : State := latched 0xE00 1 (bytes [(0x600, recipeReady), (0xE08, 2), (0xE09, 65), (0xE0A, 66)] running)

theorem test_announcement_accepted :
    announcing.waiting = some (.docket 0, docketAnnounced) ∧ announcing.docketState 0 = docketFree ∧
      (∀ a ∈ announceAddrs announcing 0, announcing.xmBad a = false) ∧
      (∃ r : RecipeNo, (announcing.byteAt (docketBase 0 + 2)).toNat = r.val ∧
        announcing.byteAt (recipeBase r) = recipeReady) ∧
      announcing.idLength 0 ≤ 24 ∧ (∀ c ∈ announcing.idChars 0, 0x20 ≤ c.toNat ∧ c.toNat ≤ 0x7E) ∧
      (after .docketStateRuling announcing).dkc.arrival = [0] ∧ (after .docketStateRuling announcing).pins 0 = 1 := by
  decide +kernel

theorem test_announcement_refused :
    (∃ a ∈ announceAddrs (spoil 0xE09 announcing) 0, (spoil 0xE09 announcing).xmBad a = true) ∧
      (after .docketStateRuling (spoil 0xE09 announcing)).byteAt 0xE01 = 4 ∧
      15 < ((bytes [(0xE02, 16)] announcing).byteAt (docketBase 0 + 2)).toNat ∧
      (after .docketStateRuling (bytes [(0xE02, 16)] announcing)).byteAt 0xE01 = 2 ∧
      (after .docketStateRuling (bytes [(0xE02, 15)] announcing)).byteAt 0xE01 = 1 ∧
      (after .docketStateRuling (bytes [(0xE09, 0x1F)] announcing)).byteAt 0xE01 = 3 ∧
      (after .docketStateRuling (bytes [(0xE08, 25)] announcing)).byteAt 0xE01 = 3 := by decide +kernel

theorem test_docket_given_back :
    (latched 0xE00 0 (bytes [(0xE00, docketDone)] running)).waiting = some (.docket 0, docketFree) ∧
      (after .docketStateRuling (latched 0xE00 0 (bytes [(0xE00, docketDone)] running))).docketState 0 = docketFree ∧
      (after .docketStateRuling (latched 0x2580 0 (bytes [(0x2580, docketRefused), (0x2581, 3)] running))).byteAt 0x2581 =
        0 := by decide +kernel

theorem test_docket_withdrawn :
    let s := latched 0xE00 0 (after .docketStateRuling announcing)
    s.docketState 0 = docketAnnounced ∧ s.waiting = some (.docket 0, docketFree) ∧
      (after .docketStateRuling s).dkc.arrival = [] ∧ (after .docketStateRuling s).pins 0 = 0 ∧
      (after .docketStateRuling (latched 0xE00 1 (bytes [(0xE00, docketOnLine)] running))).hpx.refusal.reason =
        .transition := by decide +kernel

/-- Recipe 0 as the host leaves it before READY, for line profile 1. -/
def recipe : State := bytes [(0x606, 1), (0x608, 200), (0x60A, 5), (0x60C, 100)] stored

theorem test_recipe_rulings :
    (latched 0x600 1 recipe).waiting = some (.recipe 0, recipeReady) ∧
      (after .recipeStateRuling (latched 0x600 1 recipe)).byteAt 0x600 = recipeReady ∧
      (after .recipeStateRuling (latched 0x600 1 running)).byteAt 0x601 = 1 ∧
      (after .recipeStateRuling (latched 0x600 0 (bytes [(0x600, recipeReady)] running))).byteAt 0x600 = recipeEmpty ∧
      (after .recipeStateRuling (latched 0x600 0 (bytes [(0x600, recipeReady), (0x602, 1)] running))).hpx.refusal.reason =
        .pinned ∧
      (after .recipeStateRuling (latched 0x600 2 running)).hpx.refusal.reason = .transition ∧
      (after .recipeStateRuling (latched 0x600 0 (bytes [(0x600, recipeInvalid), (0x601, 3)] running))).byteAt 0x601 =
        0 := by decide +kernel

theorem test_request_cell_rulings :
    (latched 0x3E0 1 running).waiting = some (.cell 7, cellPost) ∧
      (after .requestCellRuling (latched 0x3E0 1 running)).byteAt 0x3E1 = 8 ∧
      (after .requestCellRuling (latched 0x300 1 (bytes [(0x302, 0x30), (0x320, cellTaken), (0x322, 0x30)] running))).byteAt
        0x301 = 1 ∧
      (after .requestCellRuling (latched 0x300 1 (bytes [(0x302, 1)] running))).hpx.handed = [0] ∧
      (after .requestCellRuling (latched 0x300 0 (bytes [(0x300, cellDone)] running))).cellState 0 = cellIdle ∧
      (after .requestCellRuling (latched 0x300 2 running)).hpx.refusal.reason = .transition := by decide +kernel

/-- Lean waits here for the kernel, so that few tests wait for it at once (each holds a thread). -/
def checkpoint5 : Fin 6 := ⟨5, by decide +kernel⟩

/-! ### The requests of the alarm and mode controller -/

theorem test_start_accepted :
    let s := handed .start [] stored
    s.isHanded 0 .start = true ∧ s.amc.mode = .config ∧ descriptionFailure s = none ∧
      profileFailure s s.initialProfileByte.toNat = none ∧ s.classOut .safe = false ∧
      (after (.start 0) s).amc.mode = .standby := by decide +kernel

theorem test_start_refused :
    (after (.start 0) (handed .start [] (started 5))).byteAt 0x301 = 2 ∧
      descriptionFailure (handed .start [] running) = some { off := 2, badByte := none } ∧
      descriptionFailure (bytes [(0x456, 3)] stored) = none ∧
      profileFailure (bytes [(0x456, 3)] stored) 3 = some { off := 36, badByte := none } ∧
      (alarmIn .boardJam .latched stored).safeOut = [.boardJam] ∧
      (after (.start 0) (handed .start [] (alarmIn .boardJam .latched stored))).byteAt 0x301 = 3 := by decide +kernel

/-- The pot READY and the extraction RUNNING. -/
def warm (s : State) : State := { s with ptc.pot.state := .ready, exm.state := .running }

theorem test_produce :
    (handed .produce [] stored).isHanded 0 .produce = true ∧ (handed .produce [] stored).amc.mode ≠ .standby ∧
      produceFailures (handed .produce [] (started 5)) = 0x6 ∧
      produceFailures (handed .produce [] (warm (started 5))) = 0 ∧
      (after (.produce 0) (handed .produce [] (warm (started 5)))).amc.mode = .production := by decide +kernel

/-- A board in the map. -/
def loaded (s : State) : State := { s with cvt.map := [entry none 0] }

theorem test_finish :
    let s := handed .finish [] (inMode .production (started 5))
    s.isHanded 0 .finish = true ∧ (handed .finish [] (started 5)).amc.mode ≠ .production ∧ s.cvt.map = [] ∧
      (after (.finish 0) s).amc.mode = .standby ∧ (loaded s).cvt.map ≠ [] ∧
      (after (.finish 0) (loaded s)).amc.mode = .draining := by decide +kernel

theorem test_safe_enter_and_leave :
    (handed .safeEnter [] (started 5)).isHanded 0 .safeEnter = true ∧
      (after (.safeEnter 0) (handed .safeEnter [] (started 5))).amc.mode = .safe ∧
      (after (.safeEnter 0) (handed .safeEnter [] (inMode .safe (started 5)))).byteAt 0x301 = 0 ∧
      (after (.safeEnter 0) (handed .safeEnter [] stored)).byteAt 0x301 = 2 ∧
      (handed .safeLeave [] (inMode .safe (started 5))).isHanded 0 .safeLeave = true ∧
      (after (.safeLeave 0) (handed .safeLeave [] (started 5))).byteAt 0x301 = 2 ∧
      (handed .safeLeave [] (alarmIn .potOvertemp .held (inMode .safe (started 5)))).safeOut = [.potOvertemp] ∧
      (handed .safeLeave [] (inMode .safe (started 5))).safeOut = [] ∧
      (after (.safeLeave 0) (handed .safeLeave [] (inMode .safe (started 5)))).amc.mode = .standby := by decide +kernel

theorem test_reconfigure :
    (handed .reconfigure [] (started 5)).isHanded 0 .reconfigure = true ∧
      (handed .reconfigure [] stored).amc.mode ≠ .standby ∧
      reconfigureFailures (handed .reconfigure [] (loaded (started 5))) = 1 ∧
      reconfigureFailures (handed .reconfigure [] (started 5)) = 0 ∧
      (after (.reconfigure 0) (handed .reconfigure [] (started 5))).amc.mode = .config := by decide +kernel

/-- A PROFILE_SELECT of a profile in STANDBY. -/
def selecting (n : Nat) : State := handed .profileSelect [n] (started 5)

theorem test_profile_select :
    (selecting 2).isHanded 0 .profileSelect = true ∧ ((selecting 2).cellArg 0 0).toNat = 2 ∧
      (after (.profileSelect 0) (inMode .safe (selecting 2))).byteAt 0x301 = 2 ∧
      (after (.profileSelect 0) (selecting 4)).byteAt 0x301 = 4 ∧
      profileFailure (selecting 3) 3 = some { off := 36, badByte := none } ∧ profileFailure (selecting 2) 2 = none ∧
      (selecting 2).cvt.map = [] ∧ (after (.profileSelect 0) (selecting 2)).amc.activeProfile = 2 ∧
      (after (.profileSelect 0) (loaded (selecting 2))).amc.changeover =
        some { cell := 0, target := 2, switchedAt := none } ∧
      (after (.profileSelect 0) (selecting 1)).byteAt 0x301 = 0 := by decide +kernel

theorem test_profile_select_beside_a_calibration :
    let s := { selecting 2 with ptc.calibrate := some { cell := 1, phase := .stopping } }
    ¬ (s.fxc.purge = none ∧ s.ptc.calibrate = none) ∧ (after (.profileSelect 0) s).byteAt 0x301 = 3 := by decide +kernel

theorem test_ack_alarm :
    (handed .ackAlarm [0] (started 5)).isHanded 0 .ackAlarm = true ∧
      (after (.ackAlarm 0) (handed .ackAlarm [32] (started 5))).byteAt 0x301 = 4 ∧
      (after (.ackAlarm 0) (handed .ackAlarm [254] (started 5))).byteAt 0x301 = 4 ∧
      (after (.ackAlarm 0) (handed .ackAlarm [256] (started 5))).byteAt 0x301 = 4 ∧
      (after (.ackAlarm 0) (handed .ackAlarm [31] (alarmIn .wavePumpStall .active (started 5)))).byteAt 0x301 = 0 ∧
      (after (.ackAlarm 0) (handed .ackAlarm [255] (started 5))).byteAt 0x301 = 10 := by decide +kernel

theorem test_alarm_table :
    (claimRaise .potSensor 3 none running).present .potSensor = true ∧
      ((claimClear .potSensor (claimRaise .potSensor 3 none running)).alarm .potSensor).state = .latched ∧
      ((acknowledge .potSensor (claimRaise .potSensor 3 none running)).alarm .potSensor).state = .held ∧
      ((claimPulse .boardJam 1 none running).alarm .boardJam).occurrences = 1 := by decide +kernel

/-- Lean waits here for the kernel, so that few tests wait for it at once (each holds a thread). -/
def checkpoint6 : Fin 7 := ⟨6, by decide +kernel⟩

/-! ### The other requests -/

theorem test_measure_ruled :
    let s := handed .measure [6, 1, 60000] (started 5)
    s.isHanded 0 .measure = true ∧ s.standing .aux = none ∧ s.freeUnit = some 0 ∧ (after (.measure 0) s).cta.measure = some { cell := 0, openTime := 60000 } ∧
      (after (.measure 0) (handed .measure [7, 1, 1] (started 5))).byteAt 0x310 = 0 ∧
      (after (.measure 0) (handed .measure [6, 3, 1] (started 5))).byteAt 0x310 = 1 ∧
      (after (.measure 0) (handed .measure [6, 1, 60001] (started 5))).byteAt 0x310 = 2 ∧
      (after (.measure 0) (handed .measure [6, 0, 99] (started 5))).byteAt 0x310 = 2 := by decide +kernel

theorem test_measure_arguments :
    measureArgs 6 1 60000 = .ok (.aux, .opened) ∧ measureArgs 2 0 500 = .ok (.tachMain, .rate 500) := ⟨rfl, rfl⟩

theorem test_measure_follows_and_its_open_time :
    let s := withUnit (counting .tachMain (.rate 500) .ptc 0 0) (handed .measure [2, 0, 500] (started 5))
    s.standing .tachMain = some (blockClaim .tachMain (.rate 500) .ptc) ∧
      (after (.measure 0) s).standing .tachMain =
        some { blockClaim .tachMain (.rate 500) .ptc with follower := true } ∧
      let m := withUnit (counting .aux .opened .diag 5 9) { started 105 with cta.measure := some { cell := 0, openTime := 100 } }
      m.diagOpen = some (0, counting .aux .opened .diag 5 9) ∧
      (after .measureOpenTimeExpiry m).byteAt 0x300 = cellDone ∧
      (after .measureOpenTimeExpiry (at_ 104 m)).cta.measure = m.cta.measure := by decide +kernel

theorem test_flux_purge_ruled :
    let s := handed .fluxPurge [255, 100, 1000] (started 5)
    s.isHanded 0 .fluxPurge = true ∧ (after (.fluxPurge 0) s).fxc.purge.isSome = true ∧
      (after (.fluxPurge 0) (inMode .safe s)).byteAt 0x301 = 2 ∧
      (after (.fluxPurge 0) (handed .fluxPurge [256, 100, 100] (started 5))).byteAt 0x31C = 0 ∧
      (after (.fluxPurge 0) (handed .fluxPurge [1, 30001, 100] (started 5))).byteAt 0x31C = 1 ∧
      (after (.fluxPurge 0) (handed .fluxPurge [1, 30000, 1001] (started 5))).byteAt 0x31C = 2 ∧
      (after (.fluxPurge 0) { s with amc.changeover := some { cell := 1, target := 2, switchedAt := none } }).byteAt 0x301 =
        3 := by decide +kernel

/-- A purge in flight in a phase, with the extraction RUNNING. -/
def purging (ph : PurgePhase) : State :=
  { warm (started 105) with
      fxc.purge := some { cell := 0, load := { valves := 3, duty := 500 }, duration := 100, phase := ph, valveTime := 7,
                          flow := none } }

theorem test_purge_sprays_and_ends :
    (purging .wait).fluxApproachClear = true ∧ (purging .wait).fxc.board = none ∧ (purging .wait).sprayPermission = true ∧
      (purging .wait).fxc.pressureOk = true ∧
      (after .purgeSprayStart (purging .wait)).fxc.buffered = some { valves := 3, duty := 500 } ∧
      (inMode .safe (purging .wait)).sprayPermission = false ∧
      (after .purgeSprayExpiry (purging (.spray (some 5)))).byteAt 0x31E = 100 ∧
      (after .purgeSprayExpiry (at_ 104 (purging (.spray (some 5))))).fxc.purge = (purging (.spray (some 5))).fxc.purge := by
  decide +kernel

theorem test_level_calibrate :
    let s := handed .levelCalibrate [] (started 5)
    s.isHanded 0 .levelCalibrate = true ∧ (after (.levelCalibrate 0) (inMode .safe s)).byteAt 0x301 = 2 ∧
      (after (.levelCalibrate 0) { s with amc.inForce := none }).byteAt 0x301 = 3 ∧
      (after (.levelCalibrate 0) s).ptc.calibrate = some { cell := 0, phase := .quiet 5 } ∧
      (after .calibrateQuietExpiry { started 10005 with ptc.calibrate := some { cell := 0, phase := .quiet 5 } }).ptc.calibrate =
        some { cell := 0, phase := .sampling 0 0 0 } ∧
      (after .calibrateQuietExpiry { started 10004 with ptc.calibrate := some { cell := 0, phase := .quiet 5 } }).ptc.calibrate =
        some { cell := 0, phase := .quiet 5 } := by decide +kernel

/-- A FEED_SOLDER for some milliseconds, with the pot READY and the level in a state. -/
def feeding (n : Nat) (l : LevelState) : State :=
  { handed .feedSolder [n] (warm (started 5)) with ptc.levelState := l }

theorem test_feed_solder :
    (feeding 100 .normal).isHanded 0 .feedSolder = true ∧
      (after (.feedSolder 0) (inMode .safe (feeding 100 .normal))).byteAt 0x301 = 2 ∧
      (after (.feedSolder 0) (feeding 99 .normal)).byteAt 0x301 = 4 ∧
      (after (.feedSolder 0) (feeding 60001 .normal)).byteAt 0x301 = 4 ∧
      (after (.feedSolder 0) (handed .feedSolder [100] (started 5))).byteAt 0x301 = 3 ∧
      (after (.feedSolder 0) (feeding 100 .high)).byteAt 0x312 = 1 ∧
      (after (.feedSolder 0) (feeding 60000 .unknown)).byteAt 0x312 = 2 ∧
      (after (.feedSolder 0) (feeding 100 .low)).ptc.feeder = .feeding ∧
      (after .feedRequestTimerExpiry { started 105 with ptc.feed := some { cell := 0, since := 5, duration := 100 } }).byteAt
        0x310 = 100 ∧
      (after .feedRequestTimerExpiry { started 104 with ptc.feed := some { cell := 0, since := 5, duration := 100 } }).ptc.feed =
        some { cell := 0, since := 5, duration := 100 } := by decide +kernel

/-- A CANCEL of cell 1, which is TAKEN with a code. -/
def cancelling (code : Byte) : State := bytes [(0x320, cellTaken), (0x322, code)] (handed .cancel [1] (inMode .draining (started 5)))

theorem test_cancel_ruled :
    (cancelling 0x03).isHanded 0 .cancel = true ∧ ((cancelling 0x03).cellArg 0 0).toNat = (1 : CellNo).val ∧
      (cancelling 0x03).cellState 1 = cellTaken ∧ Request.ofCode ((cancelling 0x03).cellCode 1) = some .finish ∧
      (after (.cancel 0) (cancelling 0x03)).byteAt 0x301 = 0 ∧ (after (.cancel 0) (cancelling 0x20)).byteAt 0x301 = 10 ∧
      (after (.cancel 0) (handed .cancel [8] running)).byteAt 0x301 = 4 ∧
      (after (.cancel 0) (handed .cancel [0] running)).byteAt 0x301 = 10 := by decide +kernel

theorem test_cancel_ends_the_target :
    let done := fun t : State => t.cellState 1 = cellDone ∧ t.byteAt 0x321 = 5
    (cancelling 0x03).hpx.handed.contains 1 = false ∧
      done (after (.cancel 0) { cancelling 0x03 with amc.finish := some 1 }) ∧
      done (after (.cancel 0) { cancelling 0x10 with amc.changeover := some { cell := 1, target := 2, switchedAt := none } }) ∧
      done (after (.cancel 0) { cancelling 0x30 with cta.measure := some { cell := 1, openTime := 1 } }) ∧
      done (after (.cancel 0) { cancelling 0x40 with fxc.purge := (purging .wait).fxc.purge.map ({ · with cell := 1 }) }) ∧
      done (after (.cancel 0) { cancelling 0x50 with ptc.calibrate := some { cell := 1, phase := .stopping } }) ∧
      done (after (.cancel 0) { cancelling 0x51 with ptc.feed := some { cell := 1, since := 0, duration := 100 } }) := by
  decide +kernel

/-- A changeover in SETTLE since tick 5, with everything settled. -/
def settled (n : Nat) : State :=
  { warm (started n) with amc.changeover := some { cell := 0, target := 1, switchedAt := some 5 },
                          ptc.chip := { Pump.fresh with command := 600, state := .atSpeed },
                          ptc.main := { Pump.fresh with command := 600, state := .atSpeed } }

theorem test_changeover_ends :
    (settled 9).amc.changeover = some { cell := 0, target := 1, switchedAt := some 5 } ∧
      (settled 9).changeoverSettled = true ∧ (after .changeoverComplete (settled 9)).amc.changeover = none ∧
      (inMode .safe (settled 9)).changeoverSettled = false ∧
      5 + 1000 * prof.changeoverLimit ≤ 600005 ∧ 600004 < 5 + 1000 * prof.changeoverLimit ∧
      (after .changeoverTimeout (settled 600005)).byteAt 0x301 = 7 ∧
      (after .changeoverTimeout (settled 600004)).amc.changeover = (settled 9).amc.changeover := by decide +kernel

/-- Lean waits here for the kernel, so that few tests wait for it at once (each holds a thread). -/
def checkpoint7 : Fin 8 := ⟨7, by decide +kernel⟩

/-! ### The conveyor, the scanner, the inputs and the clock -/

theorem test_encoder_pulses_and_ticks :
    running.amc.inForce = none ∧ (started 5).cvt.residue + 1 < desc.prescaler ∧
      (after .encoderPulse (started 5)).cvt.residue = 1 ∧
      (after .encoderPulse { started 5 with cvt.residue := 1 }).cvt.mmTicksDue = 1 ∧
      (after (.mmTick true false [.gap, .entryEye, .exitEye, .stages, .exitStages] .pulseFirst)
        { started 5 with cvt.mmTicksDue := 1 }).cvt.travel = 1 ∧
      (after (.mmTick true false [.gap, .entryEye, .exitEye, .stages, .exitStages] .pulseFirst) (started 5)).cvt.travel =
        0 := by decide +kernel

/-- A board ON_LINE whose entry-eye block has come some millimetres. -/
def blocked (mm : Word) : State :=
  { inMode .production (bytes [(0xE00, docketOnLine)] (started 5)) with
      cvt.travel := mm, cvt.map := [entry (some 0) 0], cvt.entryTracked := true, cvt.entryEye := true,
      cvt.exitEdge := some 0, cvt.exitEye := true }

theorem test_jams :
    701 ≤ ((blocked 701).cvt.travel - 0).toNat ∧ ((blocked 700).cvt.travel - 0).toNat < 701 ∧
      (after (.entryBlocked .pulseFirst) (blocked 701)).docketState 0 = docketDone ∧
      (after (.entryBlocked .pulseFirst) (blocked 701)).amc.mode = .safe ∧
      (after (.exitBlocked .discardFirst) (blocked 701)).cvt.map = [] ∧
      (after (.exitBlocked .discardFirst) (blocked 700)).cvt.map = [entry (some 0) 0] ∧
      (entryLeading true .discardFirst
        { inMode .production (started 5) with cvt.map := List.replicate 12 (entry none 0) }).cvt.map = [] := by decide +kernel

/-- The read window of a board is open, with a message in the line buffer and docket 0 `AB` at the list head. -/
def reading (message : List Byte) : State :=
  { bytes [(0xE00, docketAnnounced), (0xE08, 2), (0xE09, 65), (0xE0A, 66)] (started 5) with
      dkc := { (started 5).dkc with arrival := [0], buffer := message, window := some { board := 7, badMessages := 254 } },
      cvt.map := [entry none 7] }

theorem test_scanner_characters :
    let char := fun (b : Byte) (s : State) => after (.scannerCharacter { data := b, parityBit := false, stopBit := true, startsSince := 0 } false true) s
    running.scannerPresent = false ∧ desc.scannerPresent = true ∧
      (after (.scannerCharacter { data := 65, parityBit := false, stopBit := true, startsSince := 0 } false false) (started 5)).dkc.rxHeld.isSome =
        true ∧
      char 65 (started 5) = started 5 ∧ (char 0x20 (reading [65])).dkc.buffer = [65, 0x20] ∧
      (char 0x7F (reading [65])).dkc.bad = true ∧ (char 0x1F (reading [65])).dkc.bad = true ∧
      (char 0x0D (reading [])).dkc.window = some { board := 7, badMessages := 255 } ∧
      (char 0x0D (reading (List.replicate 24 65))).dkc.window = none ∧
      (char 0x0D (reading (List.replicate 25 65))).dkc.window = some { board := 7, badMessages := 255 } ∧
      (reading [65, 66]).idChars 0 = [65, 66] ∧ (reading [65, 66]).entryOf 7 = some (entry none 7) ∧
      (char 0x0D (reading [65, 66])).docketState 0 = docketOnLine := by decide +kernel

/-- The drive at 1,000 mm/min, its stall timer running since tick 5. -/
def moving (n : Nat) : State :=
  { inMode .production (started n) with
      cvt.reference := 1000, cvt.target := 1050, cvt.drive := .ramping, cvt.stall := some 5, cvt.nextSpeed := 500,
      cvt.nextRamp := 100 }

theorem test_drive_events :
    (after .conveyorSpeedMeasurement (moving 500)).cvt.nextSpeed = 1000 ∧
      (after .conveyorSpeedMeasurement (moving 499)).cvt.nextSpeed = 500 ∧
      (after .driveRampStep (moving 100)).cvt.reference = 1050 ∧ (after .driveRampStep (moving 99)).cvt.reference = 1000 ∧
      desc.stallTime = 5000 ∧ (moving 5005).conveyorStop = false ∧
      (after .conveyorStall (moving 5005)).cvt.drive = .stalled ∧ (after .conveyorStall (moving 5005)).amc.mode = .safe ∧
      (after .conveyorStall (moving 5004)).cvt.drive = .ramping := by decide +kernel

theorem test_neighbour_lines :
    (after (.upOfferChange true) running).cvt.upOffer = true ∧
      (after (.dnAcceptChange false) (moving 9)).cvt.downstream = some 9 ∧
      (after (.dnAcceptChange true) { moving 9 with cvt.downstream := some 5 }).cvt.downstream = none ∧
      running.amc.mode.runs = false ∧ (moving 9).present .downstreamNotReady = false ∧
      (after .downstreamTimerExpiry { moving 10006 with cvt.downstream := some 5 }).present .downstreamNotReady = true ∧
      (after .downstreamTimerExpiry { moving 10005 with cvt.downstream := some 5 }).present .downstreamNotReady = false := by
  decide +kernel

theorem test_debounced_inputs :
    (after .safetyChainDebounce { started 5 with amc.chainCount := 20 }).amc.mode = .safe ∧
      (after .safetyChainDebounce { started 5 with amc.chainCount := 19 }).amc.chainOpen = false ∧
      (after .pressureSwitchDebounce { moving 5 with fxc.pressureCount := 200 }).present .fluxPressureLow = true ∧
      (after .pressureSwitchDebounce { moving 5 with fxc.pressureCount := 199 }).fxc.pressureOk = true ∧
      (after .tankSwitchDebounce { started 5 with fxc.tankCount := 200 }).present .fluxTankLow = true ∧
      (after .tankSwitchDebounce { started 5 with fxc.tankCount := 199 }).fxc.tankHigh = true := by decide +kernel

theorem test_line_clock_ticks :
    let i : TickInputs := { safetyOk := false, pressureClosed := false, tankHigh := true, valvePart := false }
    State.reset.hpx.phase = .initialising ∧ (after (.lineClockTick i) State.reset).amc.ticks = 0 ∧
      (after (.lineClockTick i) running).amc.ticks = 1 ∧ (after (.lineClockTick i) running).amc.chainCount = 1 ∧
      (after (.lineClockTick i) { running with amc.chainCount := 19 }).amc.chainCount = 20 ∧
      (after (.lineClockTick i) { running with fxc.tankCount := 199 }).fxc.tankCount = 0 := by decide +kernel

/-- Lean waits here for the kernel, so that few tests wait for it at once (each holds a thread). -/
def checkpoint8 : Fin 9 := ⟨8, by decide +kernel⟩

/-! ### Counting -/

/-- A unit alone in the array is the only claim of its source. -/
theorem soleClaim_of_alone (s : State) (src : Source) (h : ∀ v : UnitNo, v ≠ 0 → s.unit v = none) (q : s.cta.queue = []) :
    SoleClaim s 0 src := by
  refine ⟨?_, ?_⟩
  · intro v hv c hc
    rw [h v hv] at hc
    exact absurd hc (by simp)
  · rw [q]
    intro c hc
    exact absurd hc (by simp)

theorem test_a_sole_claim : SoleClaim (withUnit (counting .echo .span .ptc 5 0) (started 5)) 0 .echo :=
  soleClaim_of_alone _ _ (by decide +kernel) (by decide +kernel)

theorem test_counting_edges :
    let armed : CountUnit := { counting .tachMain (.rate 500) .ptc 5 0 with counting := false }
    (after (.rateGateOpen 0) (withUnit armed (started 6))).unit 0 =
        some { armed with counting := true, openedAt := 6 } ∧
      (after (.rateGateOpen 0) (withUnit armed (started 5))).unit 0 = some armed ∧
      (after (.sourceEdge .tachMain) (withUnit (counting .tachMain (.rate 500) .ptc 5 1048574) (started 5))).unit 0 =
        some (counting .tachMain (.rate 500) .ptc 5 1048575) ∧
      (after (.sourceEdge .tachMain) (withUnit armed (started 6))).unit 0 = some armed ∧
      (after (.spanRisingEdge .echo) (withUnit { counting .echo .span .ptc 5 0 with counting := false } (started 6))).unit 0 =
        some { counting .echo .span .ptc 5 0 with openedAt := 6 } ∧
      after (.sourceEdge .aux) (started 6) = started 6 := by decide +kernel

theorem test_claims_end :
    let status := fun (i : Instr) (s : State) (src : Source) => ((after i s).cta.results[srcNumber src]).status
    let main := counting .tachMain (.rate 500) .ptc 5 10
    let echo := counting .echo .span .ptc 5 0
    status (.rateGateClose 0) (withUnit main (started 505)) .tachMain = .ok ∧
      status (.rateGateClose 0) (withUnit main (started 504)) .tachMain = .none ∧
      status (.sourceEdge .tachMain) (withUnit { main with count := 1048575 } (started 9)) .tachMain = .overrange ∧
      status (.spanFallingEdge .echo 25000) (withUnit echo (started 9)) .echo = .ok ∧
      status (.spanOverrange .echo) (withUnit echo (started 30)) .echo = .overrange ∧
      status (.spanOverrange .echo) (withUnit echo (started 29)) .echo = .none ∧
      status (.spanNoEdge .echo) (withUnit { echo with counting := false } (started 35)) .echo = .noEdge ∧
      status (.spanNoEdge .echo) (withUnit { echo with counting := false } (started 34)) .echo = .none := by decide +kernel

theorem test_a_measure_gets_its_result :
    let s := withUnit (counting .aux (.rate 100) .diag 5 3) { started 105 with cta.measure := some { cell := 0, openTime := 100 } }
    (after (.rateGateClose 0) s).cellState 0 = cellDone ∧ (after (.rateGateClose 0) s).byteAt 0x310 = 3 := by decide +kernel

theorem test_results_reach_their_blocks :
    (after (.rateGateClose 0) (withUnit (counting .tachMain (.rate 500) .ptc 5 20) (started 505))).ptc.main.measured =
        some 600 ∧
      (after (.rateGateClose 0) (withUnit (counting .tachFan (.rate 1000) .exm 5 80) (started 1005))).exm.fanRpm = some 2400 ∧
      (started 5).ptc.main.state ≠ .ramping ∧ (started 5).ptc.mainLeftRamping = none ∧
      (after (.spanFallingEdge .echo 583) (withUnit (counting .echo .span .ptc 5 0) (started 5))).ptc.distances = [100] ∧
      ((after (.spanFallingEdge .pyro 1000) (withUnit (counting .pyro .span .phc 5 0)
          { started 5 with phc.pyro := some { board := 7, docket := 0, maximum := none, since := 0, nextClaim := 9 } })).phc.pyro.bind
            (·.maximum)) = some 4000 := by decide +kernel

/-- Lean waits here for the kernel, so that few tests wait for it at once (each holds a thread). -/
def checkpoint9 : Fin 10 := ⟨9, by decide +kernel⟩

/-! ### The links -/

/-- A round in progress at a channel. -/
def round (k : Fin 8) (s : State) : State := { s with tlk.nextFrame := some k }

theorem test_thermo_link :
    (after .thermoRoundStart (at_ 100 running)).tlk.nextFrame = some 0 ∧
      (after .thermoRoundStart (at_ 99 running)).tlk.nextFrame = none ∧ running.tlk.nextFrame = none ∧
      (after .thermoRoundStart (round 3 (at_ 100 running))).tlk.nextFrame = some 0 ∧
      ((after (.thermoFrame 0x80 0x03 0xE8 (0x80 ^^^ 0x03 ^^^ 0xE8 ^^^ 0xA5)) (round 0 running)).tlk.channels[0]).lastGood =
        some 1000 ∧
      (after (.thermoFrame 0x80 0x03 0xE8 (0x80 ^^^ 0x03 ^^^ 0xE8 ^^^ 0xA5)) (round 7 running)).tlk.nextFrame = none ∧
      ((after (.thermoFrame 0 0 0 0) (round 7 running)).tlk.channels[7]).badRun = 1 := by decide +kernel

theorem test_third_bad_frame_faults_the_zone :
    let s := round 5 (started 5)
    let s := { s with tlk.channels := s.tlk.channels.set 5 { s.tlk.channels[5] with badRun := 2 } }
    s.amc.mode.works = true ∧ s.classOut .safe = false ∧ (∀ y, (s.zone y).overtemp = false) ∧
      ((after (.thermoFrame 0 0 0 0) s).zone 5).state = .fault := by decide +kernel

/-- A poll of a sensor in progress. -/
def polling (x : FumeSensor) : State := { started 250 with flk.poll := some { sensor := x, addr := 16 } }

theorem test_fume_link :
    (after .fumePollStart (at_ 200 running)).flk.nextPoll = 300 ∧
      (after .fumePollStart (started 200)).flk.poll = some { sensor := .duct, addr := 16 } ∧
      (after .fumePollStart { started 300 with flk.nextPoll := 300 }).flk.poll = some { sensor := .filter, addr := 17 } ∧
      (after .fumePollStart (started 199)).flk.poll = none ∧
      (after .fumePollStart (polling .filter)).flk.poll = some { sensor := .duct, addr := 16 } ∧
      (after (.fumePollEnd (.bytes 0 150 (fumeCrc 0 150))) (polling .duct)).exm.ductDp = some 150 ∧
      (after (.fumePollEnd (.bytes 0 150 (fumeCrc 0 150))) (polling .filter)).exm.filterDp = some 150 ∧
      (after (.fumePollEnd (.bytes 0 150 (fumeCrc 0 151))) (polling .duct)).flk.duct.failRun = 1 ∧
      (after (.fumePollEnd .nack) (polling .duct)).flk.duct.failRun = 1 ∧
      (after (.fumePollEnd .stuck) (started 250)).flk.duct.failRun = 0 := by decide +kernel

/-- Lean waits here for the kernel, so that few tests wait for it at once (each holds a thread). -/
def checkpoint10 : Fin 11 := ⟨10, by decide +kernel⟩

/-! ### Valves, heaters, zones, pot and extraction -/

/-- A valve period since tick 5 with a load buffered and a valve open. -/
def spraying (n : Nat) : State :=
  { started n with fxc.period := some { start := 5, len := 100, openTime := 50 }, fxc.valves := 1,
                   fxc.buffered := some { valves := 6, duty := 500 } }

theorem test_valve_periods :
    (after .valvePeriodStart (spraying 105)).fxc.valves = 6 ∧ (after .valvePeriodStart (spraying 104)).fxc.valves = 1 ∧
      (after .valveOpenTimeEnd (spraying 55)).fxc.valves = 0 ∧ (after .valveOpenTimeEnd (spraying 54)).fxc.valves = 1 := by
  decide +kernel

/-- Zone 5 at 500 ‰ and the pot at 500 ‰, their heaters on. -/
def heating (n : Nat) : State :=
  let s := started n
  { s with phc.zones := s.phc.zones.set 5 { Zone.fresh with heaterOn := true, activeDuty := 500, bufferedDuty := some 7 },
           ptc.pot := { Pot.fresh with heaterOn := true, activeDuty := 500 } }

theorem test_heater_periods :
    ((after .zoneHeaterPeriodStart (heating 2000)).zone 5).activeDuty = 7 ∧
      ((after (.zoneHeaterOnTimeEnd 5) (heating 1000)).zone 5).heaterOn = false ∧
      ((after (.zoneHeaterOnTimeEnd 5) (heating 999)).zone 5).heaterOn = true ∧
      (after .potHeaterPeriodStart (heating 4000)).ptc.nextPotPeriod = 8000 ∧
      (after .potHeaterOnTimeEnd (heating 2000)).ptc.pot.heaterOn = false ∧
      (after .potHeaterOnTimeEnd (heating 1999)).ptc.pot.heaterOn = true := by decide +kernel

/-- Zone 5 SETTLING and the pot HEATING since tick 5. -/
def settling (n : Nat) : State :=
  let s := started n
  { s with phc.zones := s.phc.zones.set 5 { Zone.fresh with state := .settling, settle := some 5 },
           ptc.pot := { Pot.fresh with state := .heating, settle := some 5 } }

theorem test_settle_timers :
    prof.zoneSettle = 5 ∧ prof.potSettle = 5 ∧ ((after (.zoneSettleExpiry 5) (settling 5005)).zone 5).state = .ready ∧
      ((after (.zoneSettleExpiry 5) (settling 5004)).zone 5).state = .settling ∧
      (after .potSettleExpiry (settling 5005)).ptc.pot.state = .ready ∧
      (after .potSettleExpiry (settling 5004)).ptc.pot.state = .heating := by decide +kernel

theorem test_claims_are_placed :
    let s := { started 250 with phc.pyro := some { board := 7, docket := 0, maximum := none, since := 0, nextClaim := 250 } }
    s.standing .pyro = none ∧ s.freeUnit = some 0 ∧ (after .pyroClaimPlacement s).standing .pyro = some (blockClaim .pyro .span .phc) ∧
      s.standing .echo = none ∧ (after .echoClaimPlacement s).cta.echoTrigs = 1 := by decide +kernel

theorem test_feed_timeout :
    let s := fun n => { started 5 with ptc.feeder := .feeding, ptc.feedTimer := n }
    desc.maxFeed = 10 ∧ (s 10000).ptc.feed = none ∧ (after .feedTimeout (s 10000)).ptc.feeder = .blocked ∧
      (after .feedTimeout (s 9999)).ptc.feeder = .feeding := by decide +kernel

/-- CHIP at a reference with a command, its last result at tick 5. -/
def pumping (n reference command : Nat) : State :=
  { started n with ptc.chip := { Pump.fresh with command := command, reference := reference, measured := some 5,
                                                 lastResult := some 5, state := .ramping } }

theorem test_pump_timers :
    ((after .pumpRampStep (pumping 100 50 0)).pump .chip).state = .stopped ∧
      ((after .pumpRampStep (pumping 100 0 600)).pump .chip).reference = 50 ∧
      (after .pumpRampStep (pumping 99 0 600)).ptc.nextRamp = 100 ∧
      ((after (.pumpSpeedStale .chip) (pumping 1506 0 600)).pump .chip).measured = none ∧
      ((after (.pumpSpeedStale .chip) (pumping 1505 0 600)).pump .chip).measured = some 5 := by decide +kernel

/-- The extraction in a state, with every timer of its running since tick 5. -/
def extracting (n : Nat) (x : ExtractState) : State :=
  { started n with
      exm := { Exm.initial with fanOn := true, state := x, suppression := some 5, stallTimer := some 5, clearTimer := some 5,
                                runOn := some 5, grace := .running 5, airflowLow := { holds := false, timer := some 5 } } }

theorem test_extraction_suppression :
    desc.suppression = 10 ∧ (after .extractSuppressionExpiry (extracting 10005 .starting)).exm.state = .running ∧
      (after .extractSuppressionExpiry { extracting 10005 .starting with exm.linkDuct := true }).exm.state = .lost := by
  decide +kernel

theorem test_extraction_conditions :
    (after (.extractConfirmationExpiry .airflowLow) (extracting 2005 .running)).exm.state = .degraded ∧
      (after (.extractConfirmationExpiry .airflowLow) (extracting 2004 .running)).exm.state = .running ∧
      (after .fanStallExpiry (extracting 3005 .running)).exm.state = .lost ∧
      (after .fanClearExpiry { extracting 2005 .lost with exm.fanStall := true }).exm.state = .running := by decide +kernel

theorem test_extraction_grace_and_run_on :
    desc.grace = 10 ∧ desc.runOn = 60 ∧ (after .graceExpiry (extracting 10005 .lost)).exm.grace = .expired ∧
      (after .graceExpiry (extracting 10005 .lost)).amc.mode = .safe ∧
      (after .graceExpiry (extracting 10004 .lost)).amc.mode = .standby ∧
      (after .runOnExpiry (extracting 60005 .running)).exm.fanOn = false ∧
      (after .runOnExpiry (extracting 60004 .running)).exm.fanOn = true := by decide +kernel

/-- Lean waits here for the kernel, so that few tests wait for it at once (each holds a thread). -/
def checkpoint11 : Fin 12 := ⟨11, by decide +kernel⟩

/-! ### What every step keeps: the premises hold somewhere -/

theorem test_premises_of_the_invariants :
    Memory.wf stored.xm = true ∧ (stored.classOut .safe = false ∧ stored.amc.mode ≠ .draining ∧ stored.amc.finish = none) ∧
      (∀ a ∈ allAlarms, (stored.alarm a).state = .quiet) ∧ stored.conveyorStop = false := by decide +kernel

theorem test_host_owned_bytes_at_the_bounds :
    (hostOwned 0x302 ∧ hostOwned 0x30F ∧ ¬ hostOwned 0x310 ∧ ¬ hostOwned 0x301) ∧
      (hostOwned 0x400 ∧ hostOwned 0x5FF ∧ ¬ hostOwned 0x602 ∧ hostOwned 0x603) ∧
      (hostOwned 0xE02 ∧ hostOwned 0xE21 ∧ ¬ hostOwned 0xE22 ∧ hostOwned 0x2600) := by
  unfold hostOwned
  omega

/-- Lean waits here for the kernel, so that few tests wait for it at once (each holds a thread). -/
def checkpoint12 : Fin 13 := ⟨12, by decide +kernel⟩

/-! ### The premises on requests in flight and on outputs are met -/

/-- What every entry of an option has, from the decidable form of it. -/
theorem all_some {α : Type} {o : Option α} {p : α → Prop} (h : ∀ x ∈ o, p x) : ∀ x, o = some x → p x := h

/-- Requests in flight in TAKEN cells of their own codes, and no two TAKEN cells of one code. -/
theorem requestsLegal_of (s : State)
    (inCells : ∀ p ∈ inFlight s, s.cellState p.1 = cellTaken ∧ s.cellCode p.1 = p.2 ∧ p.1 ∉ s.hpx.handed)
    (one : ∀ x y : CellNo, s.cellState x = cellTaken → s.cellState y = cellTaken → s.cellCode x = s.cellCode y → x = y)
    (apart : s.amc.changeover ≠ none → s.fxc.purge = none) : requestsLegal s :=
  ⟨inCells, fun x y hx hy h _ => one x y hx hy h, apart⟩

/-- CANCEL of a changeover and of a calibration that stand in flight in cell 1. -/
theorem test_cancel_premises :
    requestsLegal { cancelling 0x10 with amc.changeover := some { cell := 1, target := 2, switchedAt := none } } ∧
      requestsLegal { cancelling 0x50 with ptc.calibrate := some { cell := 1, phase := .stopping } } :=
  ⟨requestsLegal_of _ (by decide +kernel) (by decide +kernel) (by decide +kernel),
    requestsLegal_of _ (by decide +kernel) (by decide +kernel) (by decide +kernel)⟩

/-- A change of mode that finds nothing to disturb, for the three requests that make one. -/
theorem test_undisturbed_changes_of_mode :
    Undisturbed (handed .produce [] (warm (started 5))) ∧
      Undisturbed (loaded (handed .finish [] (inMode .production (started 5)))) ∧
      Undisturbed (handed .reconfigure [] (started 5)) := by
  refine ⟨⟨?_, ?_, ?_, all_some ?_, ?_⟩, ⟨?_, ?_, ?_, all_some ?_, ?_⟩, ⟨?_, ?_, ?_, all_some ?_, ?_⟩⟩ <;> decide +kernel

/-- The changeover of `settled` and the purge of `purging` stand alone; a purge leaves DIAG's claims be. -/
theorem test_changeover_and_purge_premises :
    (settled 9).fxc.purge = none ∧ (settled 9).fxc.board = none ∧ (purging (.spray (some 5))).cta.measure = none ∧
      ¬ Says.stored .encoderPulse running 0 := ⟨by decide +kernel, by decide +kernel, by decide +kernel, id⟩

/-- A state of STANDBY with nothing in flight is legal, and so is one that sprays. -/
theorem test_outputs_legal_somewhere :
    requestsLegal (started 5) ∧ outputsLegal (started 5) ∧ outputsLegal (purging (.spray (some 5))) ∧
      outputsLegal (inMode .safe (started 5)) := by
  refine ⟨requestsLegal_of _ ?_ ?_ ?_, ⟨?_, all_some ?_, ?_, ?_⟩, ⟨?_, all_some ?_, ?_, ?_⟩, ?_, all_some ?_, ?_, ?_⟩ <;>
    decide +kernel

theorem test_refusal_reasons_of_the_records :
    let s := bytes [(0x300, cellTaken), (0x320, cellDone), (0x600, recipeReady), (0xE00, docketAnnounced)] running
    let hi : Enables := { lo := false, hi := true }
    [0x302, 0x30E].all (fun a => writeRefusal s a both == .locked && writeRefusal s (a + 0x20) both == .none) = true ∧
      [(0x300, hi), (0x310, low), (0x31E, both), (0x600, hi), (0x602, both), (0xE00, hi), (0xE22, both), (0xE7E, low)].all
        (fun p => writeRefusal s p.1 p.2 == .protectedBytes && Instr.wf (.hostWrite (BitVec.ofNat 16 p.1) p.2 0)) = true ∧
      writeRefusal s 0x602 hi = .locked ∧ writeRefusal s 0x682 hi = .none ∧ writeRefusal s 0x67E both = .locked ∧
      writeRefusal s 0xE20 both = .locked ∧ writeRefusal s 0xEA0 both = .none ∧
      writeRefusal { started 0 with amc.changeover := some { cell := 0, target := 3, switchedAt := none } } 0x5FE both =
        .profileInUse := by decide +kernel

theorem test_computed_pages :
    let reads := fun (a : Half) (s : State) => (after (.hostRead a both) s).hpx.answer.bind (·.data)
    Memory.wf (started 5).xm = true ∧ reads 0x0000 (started 5) = some 0x0001 ∧ reads 0x0004 (started 5) = some 5 ∧
      reads 0x0056 (extracting 5 .lost) = some 10 ∧ reads 0x0034 (heating 5) = some 0xFFFF ∧
      reads 0x0036 (heating 5) = some 500 ∧ reads 0x00A8 (started 5) = some 0xFFFF ∧ reads 0x00B0 (started 5) = some 0 ∧
      reads 0x0100 (alarmIn .safetyChainOpen .active (started 5)) = some 0x0100 ∧
      reads 0x02F0 (started 5) = some 0x001F := by decide +kernel

theorem test_conditions_horn_and_beacon :
    let s := fun a st => alarmIn a st (inMode .production (started 5))
    (s .boardJam .latched).condition = .safe ∧ (s .boardJam .latched).conveyorStop = true ∧
      (s .boardJam .latched).beacon = .red ∧ (s .boardJam .latched).horn = true ∧
      (s .potOvertemp .held).condition = .safe ∧ (s .potOvertemp .held).horn = false ∧
      (s .fluxPressureLow .active).condition = .stopFlux ∧ (s .potNotReady .active).condition = .hold ∧
      (s .potNotReady .active).beacon = .amber ∧ (started 5).beacon = .amber ∧
      (inMode .production (started 5)).beacon = .green ∧ State.reset.hpx.phase = .initialising := by decide +kernel

/-- Lean waits here for the kernel, so that few tests wait for it at once (each holds a thread). -/
def checkpoint13 : Fin 14 := ⟨13, by decide +kernel⟩

/-! ### Validation finds the first failure -/

theorem test_description_and_geometry_failures :
    firstFailure running 0x400 (descriptionRows running) = some { off := 2, badByte := none } ∧
      firstFailure (spoil 0x457 stored) 0x400 (descriptionRows (spoil 0x457 stored)) = none ∧
      firstFailure (spoil 0x456 stored) 0x400 (descriptionRows (spoil 0x456 stored)) =
        some { off := 86, badByte := some 0x456 } ∧
      (let s := bytes [(0x41E, 0xAA), (0x41F, 5)] stored
       firstFailure s 0x400 (descriptionRows s) = none ∧
         (geometryRows s).find? (fun g => !g.1) = none ∧
         (geometryRows (bytes [(0x41E, 0x5A), (0x41F, 5)] s)).find? (fun g => !g.1) = some (false, 30)) ∧
      firstFailure stored 0x400 (descriptionRows stored) = none ∧ (∀ g ∈ geometryRows stored, g.1 = true) ∧
      stored.initialProfileByte.toNat < 4 ∧ stored.amc.mode = .config ∧
      firstFailure stored 0x5C0 (profileRows stored 0x5C0) = some { off := 36, badByte := none } ∧
      firstFailure stored 0x540 (profileRows stored 0x540) = none ∧
      (let s := handed .start [] (bytes [(0x456, 3)] stored)
       s.isHanded 0 .start = true ∧ s.initialProfileByte.toNat < 4 ∧
         firstFailure s 0x5C0 (profileRows s 0x5C0) = some { off := 36, badByte := none } ∧
         (after (.start 0) s).byteAt 0x310 = 36 ∧ (after (.start 0) s).byteAt 0x312 = 1) := by decide +kernel

/-- `recipe` with bands of first and last millimetres, each of valves 1 and 2 at 500 ‰. -/
def banded (l : List (Nat × Nat)) : State :=
  bytes ((0x60E, BitVec.ofNat 8 l.length) :: l.zipIdx.flatMap fun x =>
    let b := 0x610 + 8 * x.2
    [(b, BitVec.ofNat 8 x.1.1), (b + 2, BitVec.ofNat 8 x.1.2), (b + 4, 3), (b + 6, 0xF4), (b + 7, 1)]) recipe

theorem test_recipe_failures :
    let why := fun s : State => (validateRecipe 0 s).1
    ((recipeReads (spoil 0x67D recipe) 0).find? (spoil 0x67D recipe).xmBad = some 0x67D ∧
        why (spoil 0x67D recipe) = .parity ∧ why (spoil 0x67E recipe) = .none) ∧
      (∀ a ∈ recipeReads recipe 0, recipe.xmBad a = false) ∧
      why (bytes [(0x60A, 0)] recipe) = .range ∧ why (bytes [(0x60A, 51)] recipe) = .range ∧
      why (banded [(50, 50)]) = .bandOrder ∧ why (banded [(0, 50), (49, 100)]) = .bandOrder ∧
      why (banded [(0, 50), (50, 100)]) = .none ∧ why (banded [(0, 201)]) = .bandLength ∧
      why (banded [(0, 200)]) = .none ∧ why (bytes [(0x606, 3)] recipe) = .profile ∧
      why (spoil 0x566 recipe) = .parity ∧ why (bytes [(0x607, 1)] recipe) = .none ∧
      why (bytes [(0x607, 1), (0x570, 0)] recipe) = .profile := by decide +kernel

theorem test_recipe_premises :
    recipeRanged recipe 0 ∧ recipeOrdered recipe 0 ∧ ¬ recipeRanged (bytes [(0x60A, 51)] recipe) 0 ∧
      recipeRanged (banded [(50, 50)]) 0 ∧ ¬ recipeOrdered (banded [(50, 50)]) 0 ∧
      (∃ x ∈ storedBands (banded [(0, 201)]) 0, (banded [(0, 201)]).u16 0x608 < x.last) := by
  refine ⟨?_, ⟨?_, ?_⟩, ?_, ?_, fun h => ?_, ?_⟩
  case refine_3 =>
    intro i x y hx
    have e : storedBands recipe 0 = [] := by decide +kernel
    rw [e] at hx
    simp at hx
  case refine_6 =>
    have e : storedBands (banded [(50, 50)]) 0 = [{ first := 50, last := 50, load := { valves := 3, duty := 500 } }] := by
      decide +kernel
    have := h.1
    rw [e] at this
    exact absurd (this _ (List.mem_singleton.2 rfl)) (by decide)
  all_goals first | decide +kernel | (unfold recipeRanged; decide +kernel)

/-- Lean waits here for the kernel, so that few tests wait for it at once (each holds a thread). -/
def checkpoint14 : Fin 15 := ⟨14, by decide +kernel⟩

/-! ### A board on the line -/

/-- The part in PRODUCTION with everything ready, and a board in the map since travel 7 whose docket 0 is ON_LINE and
names recipe 0, which has a dose window of 0 to 10 and one band of 0 to 50 mm. -/
def tracked (travel : Word) : State :=
  let s := bytes [(0xE00, docketOnLine), (0x600, recipeReady), (0x602, 1), (0x672, 10)] (banded [(0, 50)])
  { inMode .production (warm (started 5)) with xm := s.xm, cvt.map := [entry (some 0) 7], cvt.travel := travel }

/-- The entry of a board names its docket, which is ON_LINE. -/
theorem carries_of (s : State) (board : Word) (n : DocketNo) (m : MapEntry)
    (h : s.entryOf board = some m ∧ m.docket = some n ∧ s.onLine n = true) : carries s board n :=
  ⟨⟨m, h.1, h.2.1⟩, h.2.2⟩

theorem test_a_board_carries_its_docket : carries (tracked 7) 7 0 :=
  carries_of _ _ _ (entry (some 0) 7) (by decide +kernel)

/-- A state with a millimetre tick due and no other event of it pending. -/
def due (s : State) : State := { s with cvt.mmTicksDue := 1 }

theorem test_premises_of_a_tick :
    let s := due (tracked 7)
    let tick := after (.mmTick true false [.gap, .entryEye, .exitEye, .stages, .exitStages] .pulseFirst)
    s.cvt.mmTicksDue ≠ 0 ∧ s.entryBlockedDue = false ∧ s.exitBlockedDue = false ∧ s.sprayReady = false ∧
      s.changeoverSettled = false ∧ (tick s).cvt.map.length = 2 ∧
      (tick (due (tracked 306))).fxc.board.isSome = true := by decide +kernel

theorem test_stage_events_at_their_positions :
    entryStages desc 57 (entry none 7) = [.scanStart] ∧ entryStages desc 107 (entry none 7) = [.scanEnd] ∧
      entryStages desc 7 (entry none 7) = [] ∧ entryStages desc 507 (entry none 7) = [.zoneIn 0] ∧
      entryStages desc 1107 { entry none 7 with tTrail := some 7 } = [.pyroIn, .zoneOut 5, .pyroOut] ∧
      stageDue desc 50 none .scanStart ∧ ¬ stageDue desc 0 none .scanStart ∧ stageDue desc 1107 (some 1100) (.zoneOut 5) := by
  refine ⟨?_, ?_, ?_, ?_, ?_, ?_, ?_, ?_⟩ <;> first | decide +kernel | (unfold stageDue; decide +kernel)

theorem test_entry_eye :
    let held := entryLeading false .pulseFirst (tracked 9)
    (inMode .config (tracked 9)).amc.mode = .config ∧
      (entryLeading true .pulseFirst (inMode .config (tracked 9))).cvt.map = (tracked 9).cvt.map ∧
      (tracked 9).amc.inForce = some desc ∧
      (∀ p ∈ [desc.wScan, desc.pFlux, desc.pZone1, desc.pPyro, desc.pChip, desc.pMain], 0 < p) ∧ 0 < desc.pScan ∧
      held.cvt.map = [entry (some 0) 7, { entry none 9 with entryTime := 5, held := true }] ∧
      (entryLeading true .pulseFirst
          { tracked 9 with amc.inForce := some { desc with pScan := 0 } }).dkc.window.isSome = true ∧
      (tracked 9).cvt.entryTracked = false ∧ (entryTrailing (tracked 9)).cvt.map = (tracked 9).cvt.map ∧
      (entryTrailing { tracked 9 with cvt.map := [entry none 7], cvt.entryTracked := true }).cvt.map =
        [{ entry none 7 with tTrail := some 9 }] := by decide +kernel

theorem test_board_length :
    let s := fun n : Word => { tracked n with cvt.entryTracked := true }
    recipeGood (s 212) 0 8 4 ∧ recipeHalf (s 212) 0 8 = 200 ∧ recipeHalf (s 212) 0 10 = 5 ∧
      resultHalf (entryTrailing (s 212)) 0 52 = 205 ∧ (entryTrailing (s 212)).reasons 0 = 0 ∧
      (entryTrailing (s 213)).reasons 0 = 0x0100 ∧ (entryTrailing (s 201)).reasons 0 = 0x0100 ∧
      ((entryTrailing (s 201)).alarm .boardLengthMismatch).detail = BitVec.ofInt 16 (-6) := by
  refine ⟨?_, ?_⟩ <;> first | decide +kernel | (unfold recipeGood; decide +kernel)

theorem test_exit_stages_and_edges :
    let s := fun n : Word => tracked (7 + n)
    let exiting := fun n : Word => { s n with cvt.map := [{ entry (some 0) 7 with progress := .exiting }] }
    desc.pExit - desc.jam = 1410 ∧ ((exitStagesOf desc .pulseFirst 7 (s 1410)).cvt.map.map (·.progress)) = [.exiting] ∧
      (exitStagesOf desc .pulseFirst 7 (s 1410)).byteAt 0xE22 = 5 ∧
      (exitStagesOf desc .pulseFirst 7 (exiting 1490)).cvt.map = [] ∧
      exitStagesOf desc .pulseFirst 7 (s 1490) = s 1490 ∧ exitStagesOf desc .pulseFirst 7 (exiting 1489) = exiting 1489 ∧
      (exitLeading .pulseFirst (exiting 1411)).cvt.exitEdge = some 1418 ∧
      (exitLeading .pulseFirst (s 1409)).cvt.map = [] ∧ ((exitLeading .pulseFirst (s 1409)).alarm .boardJam).detail = 3 ∧
      (exitLeading .pulseFirst (inMode .config (s 1409))).cvt.exitEdge = none := by decide +kernel

/-- The tracked board at the exit eye. -/
def leaving : State := { tracked 1500 with cvt.exitEdge := some 1410, cvt.exitEye := true }

/-- The tracked board at the exit eye, draining, with the FINISH in flight in cell 0. -/
def finishing : State :=
  { bytes [(0x300, cellTaken), (0x302, 3)] (inMode .draining leaving) with amc.finish := some 0 }

theorem test_boards_leave :
    (tracked 7).cvt.exitEdge = none ∧ (exitTrailing leaving).docketState 0 = docketDone ∧
      (exitTrailing leaving).byteAt 0xE23 = 1 ∧ (exitTrailing (bytes [(0xE24, 1)] leaving)).byteAt 0xE23 = 2 ∧
      (exitTrailing leaving).pins 0 = 0 ∧
      (exitTrailing { leaving with cvt.map := [entry none 7, entry none 8], dkc.unannounced := 1 }).dkc.unannounced = 0 ∧
      (exitTrailing finishing).amc.mode = .standby ∧ (exitTrailing finishing).byteAt 0x301 = 0 := by decide +kernel

theorem test_a_finish_in_flight_is_legal : requestsLegal finishing :=
  requestsLegal_of _ (by decide +kernel) (by decide +kernel) (by decide +kernel)

/-- Lean waits here for the kernel, so that few tests wait for it at once (each holds a thread). -/
def checkpoint15 : Fin 16 := ⟨15, by decide +kernel⟩

/-! ### Stage events -/

theorem test_flux_in :
    let fluxIn := issueStage 7 .fluxIn
    let s := tracked 307
    ((fluxIn s).fxc.board.map (·.bands)) = some [{ first := 0, last := 50, load := { valves := 3, duty := 500 } }] ∧
      s.standing .flow = none ∧ s.freeUnit = some 0 ∧ s.boardPermission = true ∧ s.spraying = false ∧
      (fluxIn (spoil 0xE03 s)).reasons 0 = 0x1000 ∧ (fluxIn (spoil 0x617 s)).reasons 0 = 0x1000 ∧
      (fluxIn (spoil 0x615 s)).reasons 0 = 0 ∧ (fluxIn (bytes [(0xE03, 1)] s)).byteAt 0xE26 = 2 ∧
      (fluxIn (bytes [(0xE25, 4)] s)).byteAt 0xE26 = 2 ∧ (fluxIn (bytes [(0x60E, 0)] s)).fxc.board = none ∧
      (inMode .standby s).boardPermission = false ∧ (fluxIn (inMode .standby s)).reasons 0 = 1 := by decide +kernel

/-- The tracked board being fluxed, some millimetres past the flux bar, with its FLOW claim at a count. -/
def fluxing (mm : Word) (count : Nat) : State :=
  withUnit (counting .flow .opened .fxc 5 count)
    { tracked (307 + mm) with
        fxc.board := some { board := 7, docket := 0, bands := [{ first := 0, last := 50, load := { valves := 3, duty := 500 } }],
                            found := none, valveTime := 1000, interrupted := false, flow := none } }

theorem test_bands :
    (evaluateBands (fluxing 0 0)).fxc.buffered = some { valves := 3, duty := 500 } ∧
      (evaluateBands (fluxing 49 0)).fxc.buffered = some { valves := 3, duty := 500 } ∧
      (evaluateBands (fluxing 50 0)).fxc.buffered = none ∧
      (let s := evaluateBands (fluxing 0 0); evaluateBands s = s) := by decide +kernel

theorem test_flux_out_and_loss :
    let out := issueStage 7 .fluxOut
    let s := fluxing 60
    (s 0).openUnit .flow .fxc = some 0 ∧ recipeGood (s 0) 0 112 4 ∧ prof.kFactor = 1000 ∧
      (s 0).entryOf 7 ≠ none ∧ (out (s 10)).reasons 0 = 0 ∧ (out (s 11)).reasons 0 = 2 ∧ (out (s 0)).reasons 0 = 4 ∧
      resultHalf (out (s 11)) 0 54 = 11 ∧ resultWord (out (s 11)) 0 56 = 1000 ∧
      (inMode .safe (s 11)).boardPermission = false ∧
      ((fluxLoss (inMode .safe (s 11))).fxc.board.map (·.interrupted)) = some true ∧
      (fluxLoss (inMode .safe (s 0))).reasons 0 = 5 ∧
      (out (fluxLoss (inMode .safe (s 0)))).fxc.board = none := by
  refine ⟨?_, ?_, ?_⟩ <;> first | decide +kernel | (unfold recipeGood; decide +kernel)

theorem test_zones_and_pyrometer :
    let s := bytes [(0x678, 30), (0x676, 0xA0), (0x677, 15)] (tracked 507)
    (issueStage 7 (.zoneIn 0) s).byteAt 0xE22 = 3 ∧
      ((issueStage 7 (.zoneIn 5) s).zone 5).occupants = [{ board := 7, docket := some 0, boost := 30 }] ∧
      ((issueStage 7 (.zoneIn 5) (spoil 0x678 s)).zone 5).occupants = [{ board := 7, docket := some 0, boost := 0 }] ∧
      ((issueStage 7 (.zoneIn 5) { s with cvt.map := [entry none 7] }).zone 5).occupants =
        [{ board := 7, docket := none, boost := 0 }] ∧
      ((issueStage 7 (.zoneOut 5) (issueStage 7 (.zoneIn 5) s)).zone 5).occupants = [] ∧
      (issueStage 7 .pyroIn s).standing .pyro = some (blockClaim .pyro .span .phc) ∧ s.freeUnit = some 0 ∧
      (let p := fun m => { s with phc.pyro := some { board := 7, docket := 0, maximum := m, since := 0, nextClaim := 9 } }
       (issueStage 7 .pyroOut (p (some 4000))).reasons 0 = 0 ∧ (issueStage 7 .pyroOut (p (some 4001))).reasons 0 = 0x10 ∧
         (issueStage 7 .pyroOut (p none)).reasons 0 = 0x10) := by decide +kernel

/-- The tracked board in the two waves, MAIN at its speed. -/
def soldering : State :=
  let m : Passage := { board := 7, docket := 0, minimum := some 590, maximum := some 610, inTime := 2 }
  { bytes [(0x67C, 3)] (tracked 1307) with
      ptc.chipList := [m], ptc.mainList := [m], ptc.main := { Pump.fresh with state := .atSpeed, command := 600 } }

theorem test_waves :
    let s := soldering
    recipeGood s 0 7 1 ∧ recipeGood s 0 122 4 ∧ (issueStage 7 .chipIn s).ptc = s.ptc ∧
      (issueStage 7 .chipIn (bytes [(0x607, 1)] s)).reasons 0 = 0x40 ∧
      (issueStage 7 .mainIn s).reasons 0 = 0 ∧ (issueStage 7 .mainIn { s with ptc.pot.state := .heating }).reasons 0 = 0x20 ∧
      resultHalf (issueStage 7 .mainCross s) 0 72 = 3 ∧ (issueStage 7 .mainCross s).reasons 0 = 0 ∧
      (issueStage 7 .mainCross (bytes [(0x67C, 2)] s)).reasons 0 = 0x80 ∧
      resultHalf (issueStage 7 .mainOut s) 0 68 = 590 ∧ (issueStage 7 .chipOut s).ptc.chipList = [] ∧
      (changePump .main { s.ptc.main with state := .offSpeed } s).reasons 0 = 0x40 := by
  refine ⟨?_, ?_, ?_⟩ <;> first | decide +kernel | (unfold recipeGood; decide +kernel)

/-- Lean waits here for the kernel, so that few tests wait for it at once (each holds a thread). -/
def checkpoint16 : Fin 17 := ⟨16, by decide +kernel⟩

/-! ### The scanner's windows, the neighbours and the claims -/

theorem test_characters_begun_before_a_start :
    let f : RxFrame := { data := 65, parityBit := false, stopBit := true, startsSince := 1 }
    let s := fun present => { reading [] with dkc.rxPast := [{ present := present, parity := .none }] }
    (s false).rxSettingsOf f = { present := false, parity := .none } ∧ (s false).rxSettings.present = true ∧
      (after (.scannerCharacter f false true) (s false)).dkc.buffer = [] ∧
      (after (.scannerCharacter f false true) (s true)).dkc.buffer = [65] ∧
      (after (.scannerCharacter { f with stopBit := false } false true) (s true)).dkc.bad = true := by decide +kernel

theorem test_scan_windows :
    let scanStart := issueStage 7 .scanStart
    let scanEnd := issueStage 7 .scanEnd
    let ordered := fun s : State => { s with amc.inForce := some { desc with policy := .order } }
    let strict := fun s : State => { s with amc.inForce := some { desc with policy := .strict } }
    let absent := { reading [] with amc.inForce := some { desc with scannerPresent := false } }
    let shut := { reading [] with dkc.window := none }
    absent.scannerPresent = false ∧ scanStart absent = absent ∧ (scanEnd absent).docketState 0 = docketOnLine ∧
      (scanEnd { absent with dkc.arrival := [] }).present .boardUnannounced = true ∧
      (scanStart shut).dkc.window = some { board := 7, badMessages := 0 } ∧ scanEnd shut = shut ∧
      ((scanStart (strict (reading []))).alarm .scannerNoRead).detail = 254 ∧
      (scanEnd { reading [] with dkc.window := some { board := 8, badMessages := 0 } }).dkc.arrival = [0] ∧
      (scanEnd (ordered (reading []))).docketState 0 = docketOnLine ∧ (scanEnd (ordered (reading []))).byteAt 0xE26 = 1 ∧
      (scanEnd (strict (reading []))).dkc.unannounced = 1 ∧
      (scanEnd (ordered { reading [] with dkc.arrival := [] })).dkc.unannounced = 1 := by decide +kernel

/-- The line asks for the next board: docket 0 heads the arrival list with a recipe for the active profile. -/
def granting : State :=
  let s := bytes [(0xE00, docketAnnounced)] (tracked 307)
  { s with cvt.map := [{ entry none 7 with tTrail := some 7 }], cvt.drive := .atSpeed, dkc.arrival := [0],
           ptc.main.state := .atSpeed, ptc.chip.state := .atSpeed }

theorem test_lines_to_the_neighbours :
    prof.gap = 50 ∧ granting.upGrant = true ∧
      { granting with cvt.map := [{ entry none 7 with tTrail := some 257 }] }.upGrant = true ∧
      { granting with cvt.map := [{ entry none 7 with tTrail := some 258 }] }.upGrant = false ∧
      { granting with dkc.arrival := [] }.upGrant = false ∧ leaving.dnOffer = true ∧ granting.dnOffer = false ∧
      granting.fluxApproachClear = true ∧
      { granting with cvt.map := [{ entry none 7 with tTrail := some 8 }] }.fluxApproachClear = false := by decide +kernel

/-- DIAG follows MAIN's claim in unit 0, for the MEASURE in flight in cell 0. -/
def followed : State :=
  let c := counting .tachMain (.rate 500) .ptc 5 10
  withUnit { c with claim.follower := true }
    { bytes [(0x300, cellTaken), (0x302, 0x30)] (started 505) with cta.measure := some { cell := 0, openTime := 1 } }

/-- No claim stands or waits but unit 0's, of the source. -/
theorem diagOnly_of (s : State) (src : Source) (own : ∀ c ∈ s.unit 0, c.claim.source = src)
    (alone : ∀ v : UnitNo, v ≠ 0 → s.unit v = none) (q : s.cta.queue = []) : DiagOnly s src := by
  refine ⟨fun v c hc hx => ?_, by simp [q]⟩
  by_cases hv : v = 0
  · exact absurd (own c (hv ▸ hc)) hx
  · exact absurd hc (by simp [alone v hv])

theorem test_a_follower_gets_its_result :
    requestsLegal followed ∧ DiagOnly followed .tachMain ∧
      (after (.rateGateClose 0) followed).cellState 0 = cellDone ∧
      (after (.rateGateClose 0) followed).byteAt 0x31C = 1 :=
  ⟨requestsLegal_of _ (by decide +kernel) (by decide +kernel) (by decide +kernel),
    diagOnly_of _ _ (by decide +kernel) (by decide +kernel) (by decide +kernel), by decide +kernel, by decide +kernel⟩

/-- Every unit is held by a RATE claim but unit 3, which counts the echo; the fan's is the latest. -/
def crowded : State :=
  putUnit 3 (some (counting .echo .span .ptc 9 0)) (putUnit 2 (some (counting .tachFan (.rate 1000) .exm 7 0))
    (putUnit 1 (some (counting .tachMain (.rate 500) .ptc 6 0)) (putUnit 0 (some (counting .tachChip (.rate 500) .ptc 7 0))
      { started 10 with exm.fanOn := true })))

/-- FLOW preempts the latest RATE claim, the lowest unit among equals; a block's claim displaces DIAG's own. -/
theorem test_flow_preempts_and_a_block_displaces :
    let s := putUnit 0 (some (counting .aux (.rate 1000) .diag 6 0)) crowded
    s.standing .flow = none ∧ (∀ v, s.unit v ≠ none) ∧
      ((placeFlow s).unit 2).map (·.claim) = some (blockClaim .flow .opened .fxc) ∧
      (placeFlow s).cta.queue = [blockClaim .tachFan (.rate 1000) .exm] ∧
      ((placeFlow crowded).unit 0).map (·.claim) = some (blockClaim .flow .opened .fxc) ∧
      (let d := withUnit (counting .tachMain (.rate 100) .diag 5 3) { started 9 with cta.measure := some { cell := 0, openTime := 1 } }
       d.unitOf .tachMain = some 0 ∧ (placeBlock .tachMain (.rate 500) .ptc d).byteAt 0x314 = 4 ∧
         ((placeBlock .tachMain (.rate 500) .ptc d).unit 0).map (·.claim) = some (blockClaim .tachMain (.rate 500) .ptc)) := by
  decide +kernel

/-- Lean waits here for the kernel, so that few tests wait for it at once (each holds a thread). -/
def checkpoint17 : Fin 18 := ⟨17, by decide +kernel⟩

/-! ### Level, zones, pot and pumps -/

theorem test_levels :
    let s := fun ref : Nat => withUnit (counting .echo .span .ptc 5 0)
      { warm (started 5) with ptc.workingRef := some ref }
    let at_ := fun ref : Nat => after (.spanFallingEdge .echo 583) (s ref)
    desc.lowLow = -30 ∧ desc.feedOn = -10 ∧ desc.feedOff = 0 ∧ desc.highHigh = 20 ∧
      (at_ 120).ptc.levelState = .high ∧ (at_ 119).ptc.levelState = .normal ∧ (at_ 90).ptc.levelState = .low ∧
      (at_ 70).ptc.levelState = .lowLow ∧ (at_ 71).ptc.levelState = .low ∧ (at_ 90).ptc.feeder = .feeding ∧
      (at_ 70).present .solderLevelLow = true ∧ (at_ 120).present .solderLevelHigh = true ∧
      (s 90).ptc.calibrate = none ∧ (s 90).ptc.feed = none := by decide +kernel

/-- A good frame of a channel with a temperature. -/
def goodFrame (t : Half) : Instr :=
  .thermoFrame 0x80 (t.extractLsb' 8 8) (t.extractLsb' 0 8)
    (0x80 ^^^ t.extractLsb' 8 8 ^^^ t.extractLsb' 0 8 ^^^ 0xA5)

/-- Zone 1 in a state with a setpoint of 150.0 °C, a band of 4.0 °C and a hold duty of 100 ‰ of at most 600 ‰, its
channel's frame next. -/
def zoned (st : ZoneState) : State :=
  let s := started 5
  round 0
    { s with amc.profile := some { prof with zones := prof.zones.set 0 { setpoint := 1500, band := 40, hold := 100, maxDuty := 600 } },
             phc.zones := s.phc.zones.set 0 { Zone.fresh with state := st } }

theorem test_zone_frames :
    let z := fun (t : Half) st => (after (goodFrame t) (zoned st)).zone 0
    (z 1460 .ready).state = .ready ∧ (z 1459 .ready).state = .deviation ∧ (z 1540 .deviation).state = .ready ∧
      (z 1541 .ready).state = .deviation ∧ (z 1460 .settling).settle = some 5 ∧ (z 1459 .settling).settle = none ∧
      (z 1490 .ready).bufferedDuty = some 350 ∧ (z 1460 .ready).bufferedDuty = some 600 ∧
      (z 1510 .ready).bufferedDuty = some 0 ∧ (z 1490 .off).bufferedDuty = none ∧ desc.margin = 50 ∧
      (z 1550 .ready).overtemp = false ∧ (z 1551 .ready).overtemp = true ∧
      (after (goodFrame 1551) (zoned .ready)).amc.mode = .safe := by decide +kernel

theorem test_no_boost_of_an_empty_zone : isBoost [] 0 := ⟨fun _ h => absurd h List.not_mem_nil, Or.inl rfl⟩

/-- The pot in a state, the frame of one of its sensors next. -/
def potted (k : Fin 8) (st : PotState) : State := round k { started 5 with ptc.pot.state := st }

theorem test_pot_frames :
    let a := fun (t : Half) st => (after (goodFrame t) (potted 6 st)).ptc.pot
    prof.melt = 2000 ∧ prof.potSetpoint = 2500 ∧ prof.potBand = 10 ∧ prof.potHold = 100 ∧ prof.potMax = 750 ∧
      prof.meltCap = 250 ∧ (potted 6 .ready).potB = none ∧ (a 1999 .ready).state = .melting ∧
      (a 1999 .ready).bufferedDuty = some 250 ∧ (a 2000 .melting).state = .heating ∧
      (a 2000 .melting).bufferedDuty = some 750 ∧ (a 2490 .heating).settle = some 5 ∧ (a 2489 .heating).settle = none ∧
      (a 2511 .ready).state = .deviation ∧ (a 2500 .deviation).bufferedDuty = some 100 ∧
      (after (goodFrame 3301) (potted 7 .ready)).amc.mode = .safe ∧
      (after (goodFrame 3300) (potted 7 .ready)).ptc.pot.overtemp = false := by decide +kernel

theorem test_pump_results :
    let p := fun (zeros inBand count : Nat) (st : DriveState) =>
      (after (.rateGateClose 0) (withUnit (counting .tachMain (.rate 500) .ptc 5 count)
        { started 505 with ptc.main := { Pump.fresh with command := 600, reference := 600, arrival := some 4, state := st,
                                                         zero := zeros, inBand := inBand } })).ptc.main
    desc.pprMain = 4 ∧ (p 1 0 0 .atSpeed).state = .stalled ∧ (p 0 0 0 .atSpeed).zero = 1 ∧
      (p 0 0 20 .stalled).state = .ramping ∧ (p 0 1 21 .ramping).state = .atSpeed ∧ (p 0 0 21 .ramping).state = .ramping ∧
      (p 0 1 22 .atSpeed).state = .offSpeed ∧ (p 0 1 19 .ramping).state = .atSpeed ∧
      (p 0 1 18 .ramping).state = .offSpeed := by decide +kernel

/-- Lean waits here for the kernel, so that few tests wait for it at once (each holds a thread). -/
def checkpoint18 : Fin 19 := ⟨18, by decide +kernel⟩

/-! ### Searches, tracking, the fume link, the fan, and what a change of mode or an emptied map ends -/

/-- `reading` with docket 2 `CD`, docket 1 a wildcard and docket 0 `AB` in the arrival list, in this order. -/
def searching (message : List Byte) : State :=
  let s := reading message
  { bytes [(0x602, 3), (0xE80, docketAnnounced), (0xF00, docketAnnounced), (0xF08, 2), (0xF09, 67), (0xF0A, 68)] s with
      dkc := { s.dkc with arrival := [2, 1, 0] } }

/-- CR, taken at once. -/
def ended (s : State) : State :=
  after (.scannerCharacter { data := 0x0D, parityBit := false, stopBit := true, startsSince := 0 } false true) s

theorem test_searches :
    let s := searching [65, 66]
    let plain := { searching [65] with dkc := { (searching [65]).dkc with arrival := [2, 0] } }
    let bad := spoil 0xF09 s
    (s.idLength 2 = 2 ∧ s.idChars 2 = [67, 68] ∧ s.idLength 1 = 0 ∧ s.idChars 0 = [65, 66] ∧ badId s 2 = false ∧
        s.entryOf 7 = some (entry none 7)) ∧
      ((ended s).docketState 0 = docketOnLine ∧ (ended s).dkc.arrival = [2, 1]) ∧
      ((ended (searching [65])).docketState 1 = docketOnLine ∧ (ended (searching [65])).dkc.arrival = [2, 0]) ∧
      ((ended plain).dkc.unannounced = 1 ∧ (ended plain).dkc.arrival = [2, 0]) ∧
      (badId bad 2 = true ∧ (ended bad).docketState 2 = docketRefused ∧ (ended bad).byteAt 0xF01 = 4 ∧
        (ended bad).pins 0 = 2 ∧ (ended bad).dkc.arrival = [1] ∧ (ended bad).docketState 0 = docketOnLine ∧
        (ended bad).hpx.parityAddr = 0xF09 ∧ ((ended bad).alarm .recordParity).docket = some 2) := by decide +kernel

theorem test_tracking_legal :
    trackingLegal (tracked 7) ∧
      (let s := bytes [(0xE80, docketAnnounced), (0x602, 2)] (tracked 7)
       trackingLegal { s with dkc := { s.dkc with arrival := [1] } }) := by
  refine ⟨?_, ?_⟩ <;> (unfold trackingLegal; decide +kernel)

/-- DUCT's channel at the end of a poll, its link fault recorded as it stands, with the extraction in a state. -/
def linked (c : FumeChannel) (x : ExtractState) : State :=
  { polling .duct with flk.duct := c, exm := { Exm.initial with fanOn := true, state := x, linkDuct := c.fault,
                                                                sensorLink := c.fault && x == .lost } }

theorem test_link_fault_and_clear :
    let failed := fun n => after (.fumePollEnd .nack) (linked { failRun := n, goodRun := 0, fault := false } .running)
    let good := fun n =>
      after (.fumePollEnd (.bytes 0 150 (fumeCrc 0 150))) (linked { failRun := 0, goodRun := n, fault := true } .lost)
    ((failed 4).flk.duct.fault = true ∧ (failed 4).exm.linkDuct = true ∧ (failed 4).exm.state = .lost ∧
        ((failed 4).alarm .extractSensorLink).detail = 1) ∧
      ((failed 3).flk.duct.fault = false ∧ (failed 3).exm.state = .running) ∧
      ((good 2).flk.duct.fault = false ∧ (good 2).exm.sensorLink = false ∧ (good 2).exm.state = .running) ∧
      ((good 1).flk.duct.fault = true ∧ (good 1).exm.state = .lost) := by decide +kernel

theorem test_confirmation_timers :
    let ends := fun (bus : FumeBus) (r : Confirmed) x =>
      (after (.fumePollEnd bus) { linked .fresh x with exm.airflowLow := r }).exm.airflowLow.timer
    let low := fun (r : Confirmed) (p : Byte) x => ends (.bytes 0 p (fumeCrc 0 p)) r x
    let loaded := fun (p : Byte) =>
      (after (.fumePollEnd (.bytes 0 p (fumeCrc 0 p)))
        { polling .filter with exm.state := .running }).exm.filterLoaded.timer
    let absent : Confirmed := { holds := false, timer := none }
    let present : Confirmed := { holds := true, timer := none }
    desc.ductLow = 100 ∧ desc.hysteresis = 10 ∧ desc.filterWarn = 200 ∧ low absent 99 .running = some 250 ∧
      low { absent with timer := some 7 } 99 .running = some 7 ∧
      low { absent with timer := some 7 } 100 .running = none ∧
      low present 110 .running = some 250 ∧ low { present with timer := some 7 } 109 .running = none ∧
      low absent 99 .starting = none ∧ loaded 201 = some 250 ∧ loaded 200 = none ∧
      ends .nack { absent with timer := some 7 } .running = some 7 := by decide +kernel

theorem test_stall_and_clear_timers :
    let result := fun (count : Nat) (stalled : Bool) (t : Option Nat) =>
      (after (.rateGateClose 0) (withUnit (counting .tachFan (.rate 1000) .exm 5 count)
        { started 1005 with exm := { Exm.initial with fanOn := true, state := .running, fanStall := stalled,
                                                      stallTimer := t, clearTimer := t } })).exm
    desc.fanMin = 300 ∧ desc.pprFan = 2 ∧ (result 9 false none).stallTimer = some 1005 ∧
      (result 9 false (some 7)).stallTimer = some 7 ∧ (result 10 false (some 7)).stallTimer = none ∧
      (result 10 true none).clearTimer = some 1005 ∧ (result 10 true (some 7)).clearTimer = some 7 ∧
      (result 9 true (some 7)).clearTimer = none := by decide +kernel

theorem test_host_reset_starts_run_on :
    (after (.controlReset low 1) (extracting 9 .running)).exm.runOn = some 9 ∧
      (after (.controlReset low 1) (started 9)).exm.runOn = none := by decide +kernel

/-- SAFE_ENTER with docket 0 ON_LINE and a purge, a FEED_SOLDER and a FINISH in flight in cells 1, 2 and 3. -/
def busy : State :=
  let s := bytes [(0x320, cellTaken), (0x322, 0x40), (0x340, cellTaken), (0x342, 0x51), (0x360, cellTaken), (0x362, 3)]
    (handed .safeEnter [] (inMode .draining (tracked 7)))
  { s with fxc.purge := (purging .wait).fxc.purge.map ({ · with cell := 1 }),
           ptc.feed := some { cell := 2, since := 0, duration := 100 }, amc.finish := some 3 }

theorem test_safe_ends_requests_and_marks_dockets :
    let t := after (.safeEnter 0) busy
    busy.amc.mode.works = true ∧ busy.onLine 0 = true ∧ t.reasons 0 = 0x0800 ∧ t.reasons 1 = 0 ∧
      [0x321, 0x341, 0x361].all (fun a => t.byteAt a == 6) = true ∧ t.fxc.purge = none ∧ t.byteAt 0x301 = 0 := by
  decide +kernel

theorem test_the_busy_part_is_legal : requestsLegal busy ∧ outputsLegal busy := by
  refine ⟨requestsLegal_of _ ?_ ?_ ?_, ⟨?_, all_some ?_, ?_, ?_⟩⟩ <;> decide +kernel

theorem test_acknowledged_entries :
    let s := alarmIn .wavePumpStall .held
      (alarmIn .boardJam .latched (alarmIn .potSensor .active (inMode .safe (started 5))))
    let t := after (.ackAlarm 0) (handed .ackAlarm [255] s)
    let one := after (.ackAlarm 0) (handed .ackAlarm [Alarm.boardJam.id.val] s)
    ((t.alarm .potSensor).state = .held ∧ (t.alarm .boardJam).state = .quiet ∧ (t.alarm .wavePumpStall).state = .held ∧
        t.byteAt 0x310 = 2) ∧
      (one.alarm .potSensor).state = .active ∧ (one.alarm .boardJam).state = .quiet ∧ one.byteAt 0x310 = 1 := by
  decide +kernel

theorem test_acknowledging_in_a_legal_state :
    let s := handed .ackAlarm [255] (alarmIn .potSensor .active (inMode .safe (started 5)))
    modeLegal s ∧ outputsLegal s ∧ s.spraying = false := by
  refine ⟨?_, ⟨?_, all_some ?_, ?_, ?_⟩, ?_⟩ <;> first | decide +kernel | (unfold modeLegal; decide +kernel)

/-- A changeover to profile 2 in DRAIN, in flight in cell 0. -/
def draining (s : State) : State :=
  { bytes [(0x300, cellTaken), (0x302, 0x10)] s with
      amc.changeover := some { cell := 0, target := 2, switchedAt := none } }

theorem test_the_emptied_map_brings_the_switch :
    let t := exitTrailing (draining leaving)
    let jam := fun o => after (.entryBlocked o) (draining (blocked 701))
    (t.amc.changeover = some { cell := 0, target := 2, switchedAt := some 5 } ∧ t.amc.activeProfile = 2 ∧
        t.byteAt 0x310 = 2) ∧
      ((jam .pulseFirst).byteAt 0x301 = 6 ∧ (jam .pulseFirst).amc.activeProfile = 1 ∧
        (jam .pulseFirst).byteAt 0x312 = 1) ∧
      ((jam .discardFirst).byteAt 0x301 = 6 ∧ (jam .discardFirst).amc.activeProfile = 2 ∧
        (jam .discardFirst).byteAt 0x312 = 2) ∧
      (after (.profileSelect 0) (loaded (selecting 2))).byteAt 0x310 = 1 := by decide +kernel

theorem test_changeovers_are_legal :
    requestsLegal (selecting 2) ∧ requestsLegal (draining leaving) ∧ requestsLegal (draining (blocked 701)) := by
  refine ⟨requestsLegal_of _ ?_ ?_ ?_, requestsLegal_of _ ?_ ?_ ?_, requestsLegal_of _ ?_ ?_ ?_⟩ <;> decide +kernel

/-- Lean waits here for the kernel, so that few tests wait for it at once (each holds a thread). -/
def checkpoint19 : Fin 20 := ⟨19, by decide +kernel⟩

/-! ### Spans that DIAG awaits, mode entries, notices, and what else ends -/

/-- A SPAN of ECHO in unit 0, armed or counting since tick 5, that DIAG awaits for the MEASURE in flight in cell 0. -/
def awaited (counts : Bool) (who : Claimant) (n : Nat) : State :=
  let c : CountUnit := { counting .echo .span who 5 0 with counting := counts }
  withUnit { c with claim.follower := who != .diag }
    { bytes [(0x300, cellTaken), (0x302, 0x30)] (started n) with cta.measure := some { cell := 0, openTime := 1 } }

theorem test_awaited_spans_end_the_measure :
    let ends := fun (i : Instr) (s : State) => ((after i s).cellState 0, (after i s).byteAt 0x314, (after i s).byteAt 0x31C)
    ends (.spanNoEdge .echo) (awaited false .diag 35) = (cellDone, 3, 0) ∧
      ends (.spanNoEdge .echo) (awaited false .ptc 35) = (cellDone, 3, 1) ∧
      ends (.spanOverrange .echo) (awaited true .diag 30) = (cellDone, 2, 0) ∧
      ends (.spanOverrange .echo) (awaited true .ptc 30) = (cellDone, 2, 1) := by decide +kernel

theorem test_awaited_spans_are_legal :
    (requestsLegal (awaited false .ptc 35) ∧ DiagOnly (awaited false .ptc 35) .echo) ∧
      requestsLegal (awaited true .ptc 30) ∧ DiagOnly (awaited true .ptc 30) .echo := by
  refine ⟨⟨requestsLegal_of _ ?_ ?_ ?_, diagOnly_of _ _ ?_ ?_ ?_⟩, requestsLegal_of _ ?_ ?_ ?_, diagOnly_of _ _ ?_ ?_ ?_⟩ <;>
    decide +kernel

/-- Last good values of POT_A and POT_B, the frame of a channel next. -/
def pots (k : Fin 8) (a b : Option Half) (s : State) : State :=
  let c := fun (v : Option Half) => { ThermoChannel.fresh with lastGood := v }
  round k { s with tlk.channels := (s.tlk.channels.set 6 (c a)).set 7 (c b) }

/-- A channel that the next good frame restores, or the next bad one faults; its frame is next. -/
def atNotice (k : Fin 8) (faulted : Bool) (s : State) : State :=
  round k { s with tlk.channels := s.tlk.channels.set k
                     { s.tlk.channels[k] with badRun := 2, goodRun := 2, faulted := faulted } }

/-- Zone 1 with a record in place of its own. -/
def withZone (r : Zone) (s : State) : State := { s with phc.zones := s.phc.zones.set 0 r }

theorem test_zones_and_pot_on_entering_a_working_mode :
    let leave := fun (s : State) => after (.safeLeave 0) (handed .safeLeave [] (inMode .safe s))
    let faulty := withZone { Zone.fresh with sensorFaulted := true }
    let pot := fun (a : Option Half) => (leave (pots 0 a none (started 5))).ptc.pot.state
    (((leave (zoned .off)).zone 0).state = .settling ∧ ((leave (zoned .off)).zone 1).state = .off ∧
        ((leave (faulty (zoned .off))).zone 0).state = .fault) ∧
      (pot none = .melting ∧ pot (some 1999) = .melting ∧ pot (some 2000) = .heating ∧
        (leave { started 5 with ptc.pot.faultB := true }).ptc.pot.state = .fault) ∧
      ((after (.start 0) (handed .start [] (faulty (pots 0 (some 2000) none stored)))).zone 0).state = .fault ∧
      (after (.start 0) (handed .start [] (pots 0 (some 2000) none stored))).ptc.pot.state = .heating := by decide +kernel

theorem test_a_restored_zone :
    let faulty := withZone { Zone.fresh with state := .fault, sensorFaulted := true }
    let s := atNotice 0 true (faulty (zoned .fault))
    let z := (after (goodFrame 1490) s).zone 0
    (s.classOut .safe = false ∧ (∀ y, (s.zone y).overtemp = false)) ∧
      (z.sensorFaulted = false ∧ z.state = .settling ∧ z.settle = some 5 ∧ z.bufferedDuty = some 350) ∧
      ((after (goodFrame 1459) s).zone 0).settle = none ∧
      ((after (goodFrame 1490) (atNotice 0 true (faulty (started 5)))).zone 0).state = .off := by decide +kernel

/-- A condition of the zones or of the pot with its alarm, in SAFE. -/
def standing (a : Alarm) (s : State) : State := alarmIn a .active (inMode .safe s)

theorem test_overtemperatures_end :
    let zone := standing .zoneOvertemp (withZone { Zone.fresh with overtemp := true } (zoned .off))
    let pot := standing .potOvertemp { potted 7 .off with ptc.pot.overtemp := true }
    (((after (goodFrame 1550) zone).zone 0).overtemp = false ∧ (after (goodFrame 1550) zone).present .zoneOvertemp = false ∧
        (after (goodFrame 1551) zone).present .zoneOvertemp = true) ∧
      (after (goodFrame 3300) pot).ptc.pot.overtemp = false ∧ (after (goodFrame 3300) pot).present .potOvertemp = false ∧
      (after (goodFrame 3301) pot).present .potOvertemp = true := by decide +kernel

theorem test_pot_sensor_follows_its_causes :
    let judged := fun (t : State) => (t.present .potSensor, (t.alarm .potSensor).detail, t.amc.mode, t.ptc.pot.state)
    let apart := pots 7 (some 2500) none (started 5)
    let together := standing .potSensor { apart with ptc.pot.disagreement := true }
    (judged (after (goodFrame 2349) apart) = (true, 3, .safe, .off) ∧
        (after (goodFrame 2350) apart).ptc.pot.disagreement = false ∧
        (after (goodFrame 2350) together).present .potSensor = false ∧
        (after (.thermoFrame 0 0 0 0) together).ptc.pot.disagreement = true) ∧
      judged (after (.thermoFrame 0 0 0 0) (atNotice 6 false (started 5))) = (true, 1, .safe, .off) ∧
      judged (after (.thermoFrame 0 0 0 0) (atNotice 7 false (started 5))) = (true, 2, .safe, .off) ∧
      (let s := standing .potSensor (atNotice 6 true { started 5 with ptc.pot.faultA := true })
       (after (goodFrame 2500) s).ptc.pot.faultA = false ∧ (after (goodFrame 2500) s).present .potSensor = false) := by
  decide +kernel

/-- A BLOCKED feeder with its alarm LATCHED and the level in a state, ACK_ALARM of it handed over. -/
def blockedFeeder (a : Alarm) (l : LevelState) : State :=
  let s := alarmIn .wireFeedTimeout .latched (handed .ackAlarm [a.id.val] (warm (started 5)))
  { s with ptc.feeder := .blocked, ptc.feedTimer := 10000, ptc.levelState := l }

theorem test_acknowledging_clears_a_blocked_feeder :
    let feeder := fun (a : Alarm) (l : LevelState) =>
      let t := after (.ackAlarm 0) (blockedFeeder a l)
      (t.ptc.feeder, t.ptc.feedTimer)
    feeder .wireFeedTimeout .low = (.feeding, 0) ∧ feeder .wireFeedTimeout .normal = (.idle, 0) ∧
      feeder .potSensor .low = (.blocked, 10000) := by decide +kernel

theorem test_a_blocked_feeder_is_legal :
    let s := blockedFeeder .wireFeedTimeout .low
    modeLegal s ∧ outputsLegal s ∧ s.spraying = false := by
  refine ⟨?_, ⟨?_, all_some ?_, ?_, ?_⟩, ?_⟩ <;> first | decide +kernel | (unfold modeLegal; decide +kernel)

theorem test_valve_periods_with_an_empty_buffer :
    let s := fun (l : Option Load) => { spraying 105 with fxc.buffered := none, fxc.active := l }
    (after .valvePeriodStart (s (some { valves := 2, duty := 500 }))).fxc.valves = 2 ∧
      (after .valvePeriodStart (s (some { valves := 2, duty := 9 }))).fxc.valves = 0 ∧
      (after .valvePeriodStart (s none)).fxc.valves = 0 := by decide +kernel

/-- Lean waits here for the kernel, so that few tests wait for it at once (each holds a thread). -/
def checkpoint20 : Fin 21 := ⟨20, by decide +kernel⟩

/-! ### Sprays, echoes, claims and conditions as the blocks judge them -/

/-- A unit's claim is its source's only one, from the decidable form of it. -/
theorem soleClaim_of {s : State} {u : UnitNo} {src : Source}
    (h : (∀ v, v ≠ u → ∀ c ∈ s.unit v, c.claim.source ≠ src) ∧ ∀ c ∈ s.cta.queue, c.source ≠ src) : SoleClaim s u src :=
  ⟨fun v hv c hc => h.1 v hv c hc, h.2⟩

/-- The RATE claim that FLOW preempts, from the decidable form of it. -/
theorem preempted_of {s : State} {u : UnitNo} {c : CountUnit}
    (h : s.unit u = some c ∧ c.claim.mode.isRate = true ∧ ∀ v, s.unit v ≠ none)
    (last : ∀ v, ∀ k ∈ s.unit v, k.claim.mode.isRate = true → k.armed < c.armed ∨ (k.armed = c.armed ∧ u.val ≤ v.val)) :
    preempted s u c := ⟨h.1, h.2.1, h.2.2, fun v k hk => last v k hk⟩

/-- The quiet rule does not hold where MAIN neither ramps nor has left RAMPING within 2,000 ms. -/
theorem not_quiet {s : State} (still : s.ptc.main.state ≠ .ramping)
    (past : ∀ t0 ∈ s.ptc.mainLeftRamping, t0 + 2000 < s.amc.ticks) : ¬ quietEcho s := by
  rintro (h | ⟨t0, h, le⟩)
  · exact still h
  · exact absurd le (Nat.not_le.2 (past t0 h))

theorem test_start_of_the_link_and_the_valves :
    let s := { handed .start [] stored with
                 flk := { stored.flk with duct := { failRun := 4, goodRun := 1, fault := true } },
                 fxc.buffered := some { valves := 3, duty := 500 } }
    descriptionFailure s = none ∧ profileFailure s 1 = none ∧ (after (.start 0) s).flk.duct = .fresh ∧
      prof.valvePeriod = 100 ∧
      (after (.start 0) s).fxc.period = some { start := 0, len := 100, openTime := 50 } := by decide +kernel

/-- A purge that sprays, with FXC's FLOW claim at a count and some milliseconds of open valves. -/
def sprayed (start : Option Nat) (ms count : Nat) : State :=
  let s := withUnit (counting .flow .opened .fxc 5 count) (purging (.spray start))
  { s with fxc.purge := s.fxc.purge.map ({ · with valveTime := ms }) }

theorem test_a_load_starts_the_spray_timer :
    let s := { sprayed none 0 0 with fxc.period := some { start := 5, len := 100, openTime := 0 },
                                     fxc.buffered := some { valves := 3, duty := 500 } }
    ((after .valvePeriodStart s).fxc.purge.map (·.phase)) = some (.spray (some 105)) ∧
      (after .valvePeriodStart s).fxc.valves = 3 := by decide +kernel

theorem test_a_tick_counts_open_valves_and_feeding :
    let i := fun part => TickInputs.mk true true true part
    let s := fun open_ closed =>
      let s := sprayed (some 6) 7 0
      { s with fxc := { s.fxc with valves := open_, closedPart := closed }, ptc.feeder := .feeding, ptc.feedTimer := 3 }
    let time := fun part (s : State) => (after (.lineClockTick (i part)) s).fxc.purge.map (·.valveTime)
    (s 0 false).hpx.phase ≠ .initialising ∧ time false (s 1 false) = some 8 ∧ time false (s 0 true) = some 7 ∧
      time true (s 0 true) = some 8 ∧ time true (s 0 false) = some 7 ∧
      (after (.lineClockTick (i true)) (s 0 true)).fxc.closedPart = false ∧
      (after (.lineClockTick (i true)) (s 0 false)).ptc.feedTimer = 4 ∧
      (after (.lineClockTick (i true))
        { s 0 false with ptc.feed := some { cell := 1, since := 5, duration := 200 } }).ptc.feedTimer = 3 := by
  decide +kernel

theorem test_flow_overranges :
    let last := fluxing 1 1048575
    (after (.sourceEdge .flow) last).fxc.board.map (·.flow) = some (some .overrange) ∧
      (after (.sourceEdge .flow) (sprayed (some 5) 7 1048575)).fxc.purge.map (·.flow) = some (some .overrange) := by
  decide +kernel

theorem test_flow_claims_are_alone : SoleClaim (fluxing 1 1048575) 0 .flow ∧ SoleClaim (sprayed (some 5) 7 1048575) 0 .flow :=
  ⟨soleClaim_of (by decide +kernel), soleClaim_of (by decide +kernel)⟩

theorem test_a_spray_begins :
    let s := purging .wait
    let dry := { s with fxc := { s.fxc with pressureOk := false } }
    s.standing .flow = none ∧ s.freeUnit = some 0 ∧
      (after .purgeSprayStart s).unit 0 = some (granted s (blockClaim .flow .opened .fxc)) ∧
      dry.sprayPermission = true ∧ dry.fluxApproachClear = true ∧ (after .purgeSprayStart dry).byteAt 0x301 = 6 ∧
      (after .purgeSprayStart dry).byteAt 0x31C = 2 ∧ (after .purgeSprayStart dry).fxc.purge = none ∧
      (after .purgeSprayStart dry).present .fluxPressureLow = false := by decide +kernel

theorem test_a_spray_ends :
    let s := sprayed (some 5) 1000 0
    let aborted := fun t : State => (t.byteAt 0x301, t.byteAt 0x31C, t.byteAt 0x31E, t.fxc.purge == none)
    let pressed := { s with fxc := { s.fxc with pressureCount := 200 } }
    (s.fxc.board = none ∧ s.openUnit .flow .fxc = some 0 ∧ s.amc.profile = some prof ∧ fluxLoss s = s) ∧
      ((after .purgeSprayExpiry s).present .fluxNoFlow = false ∧
        ((after .purgeSprayExpiry s).alarm .fluxNoFlow).docket = none ∧
        ((after .purgeSprayExpiry s).alarm .fluxNoFlow).occurrences = 1 ∧
        ((after .purgeSprayExpiry (sprayed (some 5) 999 0)).alarm .fluxNoFlow).occurrences = 0 ∧
        (after .purgeSprayExpiry (sprayed (some 5) 1000 7)).byteAt 0x310 = 7) ∧
      (inMode .safe s).sprayPermission = false ∧ aborted (fluxLoss (inMode .safe s)) = (6, 2, 100, true) ∧
      aborted (fluxLoss { s with cvt.map := [entry none 0] }) = (6, 2, 100, true) ∧
      aborted (after .pressureSwitchDebounce pressed) = (6, 2, 100, true) ∧
      aborted (entryPhase true true .pulseFirst s) = (6, 2, 100, true) ∧
      (let o := { s with fxc.purge := s.fxc.purge.map ({ · with flow := some .overrange }) }
       (after .purgeSprayExpiry o).byteAt 0x310 = 0xFF) ∧
      aborted (fluxLoss (inMode .safe (purging .wait))) = (6, 1, 0, true) ∧ fluxLoss (purging .wait) = purging .wait := by
  decide +kernel

theorem test_a_board_enters_under_a_legal_spray :
    let s := bytes [(0x300, cellTaken), (0x302, 0x40)] (sprayed (some 5) 1000 0)
    requestsLegal s ∧ s.fxc.board = none ∧ s.cvt.entryEye = false ∧ s.amc.mode ≠ .config ∧ s.cvt.map.length < 12 ∧
      (entryPhase true true .pulseFirst s).byteAt 0x301 = 6 := by
  refine ⟨requestsLegal_of _ ?_ ?_ ?_, ?_⟩ <;> decide +kernel

/-- The ECHO claim counts in unit 0, the working reference 120 mm, the pot READY, a request TAKEN in cell 0. -/
def echoing (code : Byte) : State :=
  withUnit (counting .echo .span .ptc 5 0)
    { bytes [(0x300, cellTaken), (0x302, code)] (warm (started 50)) with ptc.workingRef := some 120 }

/-- A LEVEL_CALIBRATE that samples. -/
def sampling (sum n f : Nat) : State :=
  let s := echoing 0x50
  { s with ptc.calibrate := some { cell := 0, phase := .sampling sum n f } }

/-- A FEED_SOLDER that feeds, after some failed echoes. -/
def fed (failures : Nat) : State :=
  let s := echoing 0x51
  { s with ptc.feed := some { cell := 0, since := 5, duration := 100 }, ptc.feeder := .feeding, ptc.levelState := .low,
           ptc.echoFailures := failures }

theorem test_an_echo_counts_unquieted :
    (echoClaimed (sampling 0 15 0) 0 (counting .echo .span .ptc 5 0) ∧ ¬ quietEcho (sampling 0 15 0) ∧
        requestsLegal (sampling 0 15 0)) ∧
      (echoClaimed (fed 3) 0 (counting .echo .span .ptc 5 0) ∧ ¬ quietEcho (fed 3) ∧ requestsLegal (fed 3)) ∧
      echoFails (fed 3) (counting .echo .span .ptc 5 0) (.spanOverrange .echo) :=
  ⟨⟨⟨by decide +kernel, soleClaim_of (by decide +kernel), rfl⟩, not_quiet (by decide +kernel) (by decide +kernel),
      requestsLegal_of _ (by decide +kernel) (by decide +kernel) (by decide +kernel)⟩,
    ⟨⟨by decide +kernel, soleClaim_of (by decide +kernel), rfl⟩, not_quiet (by decide +kernel) (by decide +kernel),
      requestsLegal_of _ (by decide +kernel) (by decide +kernel) (by decide +kernel)⟩,
    Or.inr (Or.inl ⟨rfl, by decide +kernel, rfl⟩)⟩

/-- A calibration whose result is read: the cell's result and reply 0, the working reference, whether it has ended. -/
def calibrated (t : State) : Byte × Half × Option Nat × Bool :=
  (t.byteAt 0x301, t.halfAt 0x310, t.ptc.workingRef, t.ptc.calibrate == none)

theorem test_calibration_samples :
    let echo := fun us => after (.spanFallingEdge .echo us)
    (echo 583 (sampling 100 14 2)).ptc.calibrate = some { cell := 0, phase := .sampling 200 15 2 } ∧
      calibrated (echo 583 (sampling 1500 15 2)) = (0, 100, some 100, true) ∧
      calibrated (echo 583 (sampling 15915 15 0)) = (0, 1000, some 1000, true) ∧
      calibrated (echo 583 (sampling 15916 15 0)) = (4, 1001, some 120, true) ∧
      calibrated (echo 0 (sampling 16 15 0)) = (0, 1, some 1, true) ∧
      calibrated (echo 0 (sampling 15 15 0)) = (4, 0, some 120, true) ∧
      (echo 583 (sampling 1500 15 2)).ptc.chip.command = prof.chipIdle := by decide +kernel

theorem test_calibration_fails_and_goes_quiet :
    let failed := after (.spanOverrange .echo)
    let stopping := fun main => { pumping 100 50 0 with ptc := { (pumping 100 50 0).ptc with
      main := main, calibrate := some { cell := 0, phase := .stopping } } }
    (failed (sampling 0 0 3)).ptc.calibrate = some { cell := 0, phase := .sampling 0 0 4 } ∧
      calibrated (failed (sampling 0 0 4)) = (6, 0, some 120, true) ∧
      (after .pumpRampStep (stopping .fresh)).ptc.calibrate = some { cell := 0, phase := .quiet 100 } ∧
      (after .pumpRampStep (stopping { Pump.fresh with reference := 100, state := .ramping })).ptc.calibrate =
        some { cell := 0, phase := .stopping } := by decide +kernel

theorem test_failed_echoes_and_quiet_ones :
    let failed := after (.spanOverrange .echo)
    let quiet := fun n => { echoing 0 with amc.ticks := n, ptc.mainLeftRamping := some 5 }
    ((failed { echoing 0 with ptc.echoFailures := 2 }).ptc.echoLost = false ∧
        (failed { echoing 0 with ptc.echoFailures := 2 }).present .levelEchoLost = false ∧
        (failed { echoing 0 with ptc.echoFailures := 3, ptc.levelState := .low, ptc.feeder := .feeding }).ptc.feeder = .idle ∧
        (failed { echoing 0 with ptc.echoFailures := 3 }).present .levelEchoLost = true ∧
        (failed { echoing 0 with ptc.echoFailures := 3, ptc.levelState := .low }).ptc.levelState = .unknown) ∧
      (failed (quiet 2005)).ptc.echoFailures = 0 ∧ (failed (quiet 2006)).ptc.echoFailures = 1 ∧
      (after (.spanFallingEdge .echo 583) (quiet 2005)).ptc.distances = [] ∧
      (after (.spanFallingEdge .echo 583) (quiet 2006)).ptc.distances = [100] := by decide +kernel

theorem test_a_feed_ends_early :
    let ended := fun t : State => (t.byteAt 0x301, t.halfAt 0x310, t.halfAt 0x312, t.halfAt 0x314, t.ptc.feed == none)
    let frame := fun temp => after (goodFrame temp) (round 6 (fed 0))
    ended (after (.spanFallingEdge .echo 583) (fed 0)) = (0, 45, 1, 20, true) ∧
      (after (.spanFallingEdge .echo 589) (fed 0)).ptc.feeder = .feeding ∧
      ended (after (.spanOverrange .echo) (fed 3)) = (0, 45, 2, 0xFFFF, true) ∧
      (after (.spanOverrange .echo) (fed 2)).ptc.feeder = .feeding ∧
      (ended (frame 1999)).1 = 6 ∧ (ended (frame 1999)).2.2.1 = 3 ∧ (frame 2000).ptc.feeder = .feeding ∧
      (ended (enterPot .off (fed 0))).2.2.1 = 3 := by decide +kernel

/-- Lean waits here for the kernel, so that few tests wait for it at once (each holds a thread). -/
def checkpoint21 : Fin 22 := ⟨21, by decide +kernel⟩

/-- A MEASURE of FLOW beside `crowded`, with CHIP commanded. -/
def flowMeasured : State :=
  handed .measure [0, 2, 0] { crowded with ptc := { crowded.ptc with chip := { Pump.fresh with command := 600 } } }

theorem test_measures_with_no_free_unit :
    let aux := handed .measure [6, 0, 100] crowded
    let t := after (.measure 0) flowMeasured
    (aux.freeUnit = none ∧ aux.standing .aux = none ∧
        (after (.measure 0) aux).cta.queue = [diagClaim .aux (.rate 100)]) ∧
      flowMeasured.standing .flow = none ∧ t.unit 0 = some (granted flowMeasured (diagClaim .flow .span)) ∧
      t.cta.queue = [blockClaim .tachChip (.rate 500) .ptc] ∧
      (t.cta.results[srcNumber .tachChip]).status = .abandoned ∧
      (placeFlow flowMeasured).cta.queue = [blockClaim .tachChip (.rate 500) .ptc] ∧
      (placeFlow crowded).cta.queue = [] := by decide +kernel

theorem test_arguments_of_measures_with_no_free_unit :
    measureArgs 6 0 100 = .ok (.aux, .rate 100) ∧ measureArgs 0 2 0 = .ok (.flow, .span) := ⟨rfl, rfl⟩

theorem test_a_measure_preempts :
    preempted flowMeasured 0 (counting .tachChip (.rate 500) .ptc 7 0) ∧ SoleClaim flowMeasured 0 .tachChip :=
  ⟨preempted_of (by decide +kernel) (by decide +kernel), soleClaim_of (by decide +kernel)⟩

theorem test_the_replies_of_a_measure :
    let s := { started 105 with cta.measure := some { cell := 0, openTime := 100 } }
    let m := withUnit (counting .aux .opened .diag 5 9) s
    let g := withUnit (counting .aux (.rate 100) .diag 5 3) s
    (after .measureOpenTimeExpiry m).byteAt 0x316 = 1 ∧ (after .measureOpenTimeExpiry m).byteAt 0x31E = 1 ∧
      ((after .measureOpenTimeExpiry m).cta.results[srcNumber .aux]).seq = 1 ∧
      (after (.rateGateClose 0) g).byteAt 0x316 = 1 ∧ (after (.rateGateClose 0) g).byteAt 0x31E = 0 ∧
      (after (.spanNoEdge .echo) (awaited false .ptc 35)).byteAt 0x316 = 1 ∧
      (after (.spanNoEdge .echo) (awaited false .ptc 35)).byteAt 0x31E = 2 := by decide +kernel

/-- Docket 0 ON_LINE occupies zone 1 in PRODUCTION, zone 1 in a state. -/
def occupied (st : ZoneState) : State :=
  bytes [(0xE00, docketOnLine)]
    (inMode .production
      (withZone { Zone.fresh with state := st, occupants := [{ board := 7, docket := some 0, boost := 0 }] } (zoned .off)))

theorem test_zone_alarms_and_marks :
    let t := after (goodFrame 1459) (occupied .ready)
    let f := after (.thermoFrame 0 0 0 0) (atNotice 0 false (occupied .ready))
    let back := after (goodFrame 1460) (alarmIn .zoneDeviation .active (occupied .deviation))
    (t.present .zoneDeviation = true ∧ (t.alarm .zoneDeviation).detail = 1 ∧ t.reasons 0 = 0x0008 ∧
        t.present .zoneSensor = false) ∧
      ((after (goodFrame 1459) (inMode .standby (occupied .ready))).present .zoneDeviation = false ∧
        (after (goodFrame 1459) (inMode .standby (occupied .ready))).reasons 0 = 0x0008) ∧
      (f.present .zoneSensor = true ∧ (f.alarm .zoneSensor).detail = BitVec.ofNat 16 (10 + (f.zone 0).faultCode) ∧
        f.reasons 0 = 0x0008) ∧
      back.present .zoneDeviation = false ∧ (back.alarm .zoneDeviation).state = .latched ∧ back.reasons 0 = 0 ∧
      (f.amc.mode, t.amc.mode) = (.production, .production) := by decide +kernel

theorem test_pot_and_settle_alarms :
    let t := after (goodFrame 1999) (inMode .production (potted 6 .ready))
    let sl := inMode .production (settling 5005)
    t.present .potNotReady = true ∧ (t.alarm .potNotReady).detail = 1999 ∧
      (after (goodFrame 2500) (inMode .production (potted 6 .ready))).present .potNotReady = false ∧
      (after (goodFrame 1999) (potted 6 .ready)).present .potNotReady = false ∧
      ((after .potSettleExpiry (alarmIn .potNotReady .active sl)).alarm .potNotReady).state = .latched ∧
      ((after .potSettleExpiry (alarmIn .potNotReady .held sl)).alarm .potNotReady).state = .quiet ∧
      ((after (.zoneSettleExpiry 5) (alarmIn .zoneDeviation .active sl)).alarm .zoneDeviation).state = .latched ∧
      (after (.finish 0) (handed .finish [] (alarmIn .zoneDeviation .active (occupied .deviation)))).present
          .zoneDeviation = false ∧
      (after (.produce 0) (handed .produce [] (warm (started 5)))).present .potNotReady = false := by decide +kernel

/-- MAIN AT_SPEED in PRODUCTION with a board in its list, its tachometer at a count. -/
def gauged (count : Nat) : State :=
  let s := withUnit (counting .tachMain (.rate 500) .ptc 5 count) { soldering with amc.ticks := 505 }
  { s with ptc.main := { s.ptc.main with reference := 600, arrival := some 4 } }

theorem test_speeds_of_a_passage_and_their_alarm :
    let result := fun count => after (.rateGateClose 0) (gauged count)
    let span := fun t : State => t.ptc.mainList.map fun m => (m.minimum, m.maximum)
    let p := alarmIn .wavePumpSpeed .active (inMode .production (pumping 100 50 0))
    let offSpeed := { p with ptc := { p.ptc with chip := { p.ptc.chip with state := .offSpeed } } }
    span (result 20) = [(some 590, some 610)] ∧ span (result 19) = [(some 570, some 610)] ∧
      span (result 21) = [(some 590, some 630)] ∧ (result 21).present .wavePumpSpeed = false ∧
      (result 18).present .wavePumpSpeed = true ∧ ((result 18).alarm .wavePumpSpeed).detail = 2 ∧
      (after (.rateGateClose 0) (inMode .standby (gauged 18))).present .wavePumpSpeed = false ∧
      (after (.sourceEdge .tachMain) (gauged 1048575)).ptc = (gauged 1048575).ptc ∧
      ((after .pumpRampStep offSpeed).pump .chip).state = .stopped ∧
      (after .pumpRampStep offSpeed).present .wavePumpSpeed = false := by decide +kernel

theorem test_grace_starts_and_stops :
    let s := extracting 3005
    let stopped := { s .running with exm := { (s .running).exm with grace := .stopped } }
    let stalled := { s .lost with exm := { (s .lost).exm with fanStall := true } }
    (after .fanStallExpiry stopped).exm.grace = .running 3005 ∧
      (after .fanStallExpiry (s .lost)).exm.grace = .running 5 ∧ (after .fanClearExpiry stalled).exm.grace = .stopped ∧
      (after (.extractConfirmationExpiry .airflowLow) (s .running)).exm.grace = .running 5 := by decide +kernel

theorem test_run_on_ends_with_the_fan_claim :
    let fan := counting .tachFan (.rate 1000) .exm 5 0
    let s := withUnit fan (alarmIn .extractFanStall .active (extracting 60005 .lost))
    let ended := after .runOnExpiry
    let queued := { s with cta := { s.cta with queue := [blockClaim .echo .span .ptc] } }
    let unclaimed := extracting 60005 .lost
    let waiting := { unclaimed with cta := { unclaimed.cta with queue := [fan.claim] } }
    (s.spraying = false ∧ s.fxc.board = none ∧ (ended s).unit 0 = none ∧ (ended s).exm.state = .off ∧
        ((ended s).alarm .extractFanStall).state = .latched) ∧
      ((ended queued).unit 0 = some (granted queued (blockClaim .echo .span .ptc)) ∧ (ended queued).cta.echoTrigs = 1) ∧
      ((ended (withUnit { fan with claim.follower := true } s)).unit 0).map (·.claim.claimant) = some .diag ∧
      waiting.unitOf .tachFan = none ∧ waiting.standing .tachFan = some fan.claim ∧ (ended waiting).cta.queue = [] ∧
      (let followed := { waiting with cta.queue := [{ fan.claim with follower := true }] }
       ((ended followed).cta.queue.map (·.claimant)) = [.diag]) := by decide +kernel

theorem test_the_fan_claim_is_alone :
    let s := withUnit (counting .tachFan (.rate 1000) .exm 5 0) (extracting 60005 .lost)
    SoleClaim s 0 .tachFan ∧ fanClaimed s := by
  refine ⟨soleClaim_of ?_, fun u c hc hs => ?_⟩
  · decide +kernel
  · have only : ∀ u, ∀ c ∈ State.unit (withUnit (counting .tachFan (.rate 1000) .exm 5 0) (extracting 60005 .lost)) u,
        u = 0 ∧ c = counting .tachFan (.rate 1000) .exm 5 0 := by decide +kernel
    obtain ⟨rfl, rfl⟩ := only u c hc
    exact ⟨soleClaim_of (by decide +kernel), fun _ => rfl⟩

end Sys2Proof.Tests
end

section
/-! PROOFS. The docket controller's ruling on a docket's state byte: announcements that are refused (R37, R38) and dockets
given back (R40). -/

namespace Sys2Proof.Machine

/-! ### A ruling that accepts -/

/-- The slot after a ruling: the latched write is RULED at this tick, an empty slot stays empty (R8). -/
theorem slot_slotRuled (accepted : Bool) (s : State) :
    (slotRuled accepted s).hpx.slot =
      s.hpx.slot.map fun w => { w with progress := .ruled accepted s.amc.ticks } := by
  unfold slotRuled
  cases h : s.hpx.slot with
  | none => simp [h]
  | some w => rfl

/-- A ruling changes nothing but the slot. -/
theorem ruleAccepted_eq (s : State) :
    ruleAccepted s = { s with hpx := { s.hpx with slot := (ruleAccepted s).hpx.slot } } := by
  unfold ruleAccepted slotRuled
  cases s.hpx.slot <;> rfl

@[simp] theorem byteAt_ruleAccepted (s : State) (a : Nat) : (ruleAccepted s).byteAt a = s.byteAt a :=
  byteAt_slotRuled true s a

/-- The acceptance is of the write that was latched when the ruling began, whatever the ruling wrote between. -/
theorem ruledNow_ruleAccepted {s u : State} (slot : u.hpx.slot = s.hpx.slot) (ticks : u.amc.ticks = s.amc.ticks) :
    Says.RuledNow true s (ruleAccepted u) := by
  unfold Says.RuledNow ruleAccepted
  rw [slot_slotRuled, slot, ticks]

/-! ### The ruling on a docket -/

/-- DOCKET_STATE_RULING rules on the docket whose write waits. -/
theorem exec_docketStateRuling {s : State} {d : DocketNo} {v : Byte} (w : s.waiting = some (.docket d, v)) :
    exec .docketStateRuling s = .next (ruleDocket d v s) := by
  have ruled : docketRuling s = ruleDocket d v s := by simp [docketRuling, w]
  exact congrArg Host.Outcome.next ruled

/-- ANNOUNCED on FREE is judged (R36). -/
theorem ruleDocket_announced {s : State} {d : DocketNo} (free : s.docketState d = docketFree) :
    ruleDocket d docketAnnounced s = ruleAccepted (announce d s) := by
  simp [ruleDocket, free]

/-- FREE on DONE or REFUSED gives the docket back (R36). -/
theorem ruleDocket_givenBack {s : State} {d : DocketNo}
    (ended : s.docketState d = docketDone ∨ s.docketState d = docketRefused) :
    ruleDocket d docketFree s = ruleAccepted (freeDocket d s) := by
  rcases ended with done | refused
  · simp [ruleDocket, done, docketFree, docketAnnounced, docketDone]
  · simp [ruleDocket, refused, docketFree, docketAnnounced, docketRefused, docketDone]

/-- The two writes that close a ruling, the refusal reason and then the state (R14), change no other byte. -/
theorem byteAt_docketVerdict (d : DocketNo) (state reason : Byte) (s : State) (a : Nat) :
    (putByte (docketBase d) state (putByte (docketBase d + 1) reason s)).byteAt a =
      if a = docketBase d then state else if a = docketBase d + 1 then reason else s.byteAt a := by
  rw [byteAt_putByte, byteAt_putByte]
  simp [stores_docketBase, stores_docket]

theorem byteAt_refuseAnnounced (d : DocketNo) (why : DocketRefusal) (s : State) (a : Nat) :
    (refuseAnnounced d why s).byteAt a =
      if a = docketBase d then docketRefused else if a = docketBase d + 1 then why.code else s.byteAt a := by
  unfold refuseAnnounced
  rw [byteAt_setAttn, byteAt_docketVerdict]

theorem byteAt_freeDocket (d : DocketNo) (s : State) (a : Nat) :
    (freeDocket d s).byteAt a =
      if a = docketBase d then docketFree else if a = docketBase d + 1 then 0 else s.byteAt a :=
  byteAt_docketVerdict d docketFree 0 s a

@[simp] theorem refuseAnnounced_attn_docket (d : DocketNo) (why : DocketRefusal) (s : State) :
    (refuseAnnounced d why s).hpx.attn.getLsbD 0 = true := by
  unfold refuseAnnounced setAttn
  simp [AttnClass.bit]

/-- No recipe's pin count lies in a docket. -/
theorem pins_freeDocket (d : DocketNo) (s : State) (r : RecipeNo) : (freeDocket d s).pins r = s.pins r := by
  have below : recipeBase r + 2 < docketBase d := by unfold recipeBase docketBase; omega
  unfold State.pins
  rw [byteAt_freeDocket, if_neg (by omega), if_neg (by omega)]

/-! ### The checks of an announcement (R37) and its refusal (R38) -/

/-- The recipe index, where it is one, names the recipe. -/
theorem recipeOf_of_index {s : State} {d : DocketNo} {r : RecipeNo}
    (idx : (s.byteAt (docketBase d + 2)).toNat = r.val) : s.recipeOf d = r := by
  apply Fin.ext
  simp [State.recipeOf, idx]

/-- An ID longer than 24, or with a character outside 0x20 to 0x7E, is not well formed. -/
theorem idOk_eq_false {s : State} {d : DocketNo}
    (bad : 24 < s.idLength d ∨ ∃ c ∈ s.idChars d, ¬ (0x20 ≤ c.toNat ∧ c.toNat ≤ 0x7E)) : s.idOk d = false := by
  unfold State.idOk
  rcases bad with long | ⟨c, hc, outside⟩
  · simp [Nat.not_le.mpr long]
  · have notId : isIdChar c = false := by simpa [isIdChar] using outside
    have notAll : (s.idChars d).all isIdChar = false := List.all_eq_false.mpr ⟨c, hc, by simp [notId]⟩
    rw [notAll, Bool.and_false]

theorem announceRefusal_badRecipeIndex {s : State} {d : DocketNo}
    (idx : 15 < (s.byteAt (docketBase d + 2)).toNat) : announceRefusal s d = some .badRecipeIndex := by
  unfold announceRefusal State.u8
  rw [if_pos idx]

theorem announceRefusal_recipeNotReady {s : State} {d : DocketNo} {r : RecipeNo}
    (idx : (s.byteAt (docketBase d + 2)).toNat = r.val) (recipe : s.byteAt (recipeBase r) ≠ recipeReady) :
    announceRefusal s d = some .recipeNotReady := by
  unfold announceRefusal State.u8
  rw [if_neg (by omega), recipeOf_of_index idx, if_pos recipe]

theorem announceRefusal_badId {s : State} {d : DocketNo} {r : RecipeNo}
    (idx : (s.byteAt (docketBase d + 2)).toNat = r.val) (recipe : s.byteAt (recipeBase r) = recipeReady)
    (bad : 24 < s.idLength d ∨ ∃ c ∈ s.idChars d, ¬ (0x20 ≤ c.toNat ∧ c.toNat ≤ 0x7E)) :
    announceRefusal s d = some .badId := by
  unfold announceRefusal State.u8
  rw [if_neg (by omega), recipeOf_of_index idx, if_neg (fun notReady => notReady recipe), idOk_eq_false bad]
  rfl

/-- Among bytes of which one is bad the part finds a bad one. -/
theorem firstBad_eq_some {s : State} {addrs : List Nat} (bad : ∃ a ∈ addrs, s.xmBad a = true) :
    ∃ a, firstBad s addrs = some a :=
  Option.isSome_iff_exists.mp (List.find?_isSome.mpr bad)

/-- Among good bytes the part finds no bad one. -/
theorem firstBad_eq_none {s : State} {addrs : List Nat} (good : ∀ a ∈ addrs, s.xmBad a = false) :
    firstBad s addrs = none :=
  List.find?_eq_none.mpr fun a ha => Bool.eq_false_iff.mp (good a ha)

/-- The judgement of an announcement ends in a refusal; before it HPX at most has captured a bad byte. -/
def JudgedRefused (s : State) (d : DocketNo) (why : DocketRefusal) : Prop :=
  ∃ u, OnlyHpx s u ∧ u.hpx.slot = s.hpx.slot ∧ announce d s = refuseAnnounced d why u

/-- PARITY comes before every other check. -/
theorem judgedRefused_parity {s : State} {d : DocketNo} (bad : ∃ a ∈ announceAddrs s d, s.xmBad a = true) :
    JudgedRefused s d .parity := by
  obtain ⟨a, found⟩ := firstBad_eq_some bad
  exact ⟨offerParity a s, (offerParity_keeps a s).1, by simp, by simp [announce, found]⟩

/-- With good parity throughout, the first of the other checks that fails gives the reason. -/
theorem judgedRefused_of_announceRefusal {s : State} {d : DocketNo} {why : DocketRefusal}
    (good : ∀ a ∈ announceAddrs s d, s.xmBad a = false) (fails : announceRefusal s d = some why) :
    JudgedRefused s d why :=
  ⟨s, by simp, rfl, by simp [announce, firstBad_eq_none good, fails]⟩

/-- The effect of R38: of exchange memory the docket's reason and state are written, ATTN.DOCKET is set, and every block
but HPX stands. -/
theorem JudgedRefused.effect {s : State} {d : DocketNo} {why : DocketRefusal} (judged : JudgedRefused s d why) :
    let t := ruleAccepted (announce d s)
    Says.RuledNow true s t ∧ Says.OthersKept s t ∧ t.dkc = s.dkc ∧ t.docketState d = docketRefused ∧
      t.byteAt (docketBase d + 1) = why.code ∧ t.hpx.attn.getLsbD 0 = true ∧
      Says.OnlyBytes (fun a => a = docketBase d ∨ a = docketBase d + 1) s t := by
  obtain ⟨u, ⟨dkc, cvt, amc, cta, tlk, flk, fxc, phc, ptc, exm, xm, free, pending⟩, slot, refused⟩ := judged
  rw [refused]
  refine ⟨ruledNow_ruleAccepted (by simp [slot]) (by simp [amc]), ?others, by simp [dkc], ?state, ?reason, by simp,
    ?bytes⟩
  case others => simp [Says.OthersKept, cvt, amc, cta, tlk, flk, fxc, phc, ptc, exm, free, pending]
  case state => simp [State.docketState, byteAt_refuseAnnounced]
  case reason => simp [byteAt_refuseAnnounced]
  case bytes =>
    intro a ha
    obtain ⟨notState, notReason⟩ := not_or.mp ha
    rw [byteAt_ruleAccepted, byteAt_refuseAnnounced, if_neg notState, if_neg notReason, byteAt_of_xm xm]

end Sys2Proof.Machine

namespace Sys2Proof

open Sys2Proof.Machine

/-- Settles O17: each failing check of R37 gives the reason of its code, and a refusal for any reason has the one effect
of R38. -/
theorem announcementRefused : Obligations.AnnouncementRefused := by
  intro s d code waiting free idx idBad fails
  obtain ⟨why, rfl, judged⟩ : ∃ why : DocketRefusal, code = why.code ∧ JudgedRefused s d why := by
    rcases fails with ⟨rfl, bad⟩ | ⟨good, ⟨rfl, above⟩ | ⟨r, index, ⟨rfl, notReady⟩ | ⟨rfl, ready, badId⟩⟩⟩
    · exact ⟨.parity, rfl, judgedRefused_parity bad⟩
    · exact ⟨.badRecipeIndex, rfl, judgedRefused_of_announceRefusal good (announceRefusal_badRecipeIndex above)⟩
    · exact ⟨.recipeNotReady, rfl,
        judgedRefused_of_announceRefusal good (announceRefusal_recipeNotReady index notReady)⟩
    · exact ⟨.badId, rfl, judgedRefused_of_announceRefusal good (announceRefusal_badId index ready badId)⟩
  refine ⟨ruleAccepted (announce d s), ?_, judged.effect⟩
  rw [exec_docketStateRuling waiting, ruleDocket_announced free]

/-- Settles O18: the give-back is the two writes of `freeDocket`, and the acceptance moves nothing but the slot. -/
theorem docketGivenBack : Obligations.DocketGivenBack := by
  intro s d waiting ended
  refine ⟨ruleAccepted (freeDocket d s), ?exec, ruledNow_ruleAccepted (by simp) (by simp), ?state, ?reason, ?bytes,
    ?pins, ?frame⟩
  case exec => rw [exec_docketStateRuling waiting, ruleDocket_givenBack ended]
  case state => simp [State.docketState, byteAt_freeDocket]
  case reason => simp [byteAt_freeDocket]
  case bytes =>
    intro a ha
    obtain ⟨notState, notReason⟩ := not_or.mp ha
    rw [byteAt_ruleAccepted, byteAt_freeDocket, if_neg notState, if_neg notReason]
  case pins =>
    intro r
    exact (byteAt_ruleAccepted _ _).trans (pins_freeDocket d s r)
  case frame =>
    have xm : (ruleAccepted (freeDocket d s)).xm = (freeDocket d s).xm := by simp
    rw [xm]
    exact ruleAccepted_eq (freeDocket d s)

end Sys2Proof
end
